-- ==== Sys2Proof/Word.lean ====
section
/-! DEFINITION. The two word types of the machine (00_scope.md R5, R7): a byte and a 16-bit address. -/

namespace Sys2Proof

/-- A u8 (R7): registers A, X, Y, SP, P, a memory byte, an operand byte. -/
abbrev Byte := BitVec 8

/-- A u16 (R7): PC and every CPU bus address. -/
abbrev Word := BitVec 16

end Sys2Proof
end

