-- ==== Sys2Proof/Machine/Flags.lean ====
section
/-! DEFINITION. The status byte P and every flag computation: the layout of 10_state.md R26, R27, the generic update of R35, the
addition of 41_alu.md R130, the compare of R136, the merge of PLP and RTI (43 R185, 42 R163). -/

namespace Sys2Proof.Machine

/-- The eight fields of P (10_state.md R26). -/
inductive Flag where
  | c
  | z
  | i
  | d
  | b1
  | b2
  | v
  | n
  deriving DecidableEq, Repr

/-- The bit number of a field of P (R26). -/
def Flag.bit (f : Flag) : Nat :=
  match f with
  | .c => 0
  | .z => 1
  | .i => 2
  | .d => 3
  | .b1 => 4
  | .b2 => 5
  | .v => 6
  | .n => 7

/-- `v[k]` of 00_scope.md R7. -/
def bitAt (k : Nat) (v : Byte) : Bool := v.getLsbD k

/-- The value of a field of P. -/
def getFlag (f : Flag) (p : Byte) : Bool := bitAt f.bit p

/-- P with one field set to `b`, every other field unchanged. -/
def setFlag (f : Flag) (b : Bool) (p : Byte) : Byte :=
  if b then p ||| (1#8 <<< f.bit) else p &&& ~~~(1#8 <<< f.bit)

/-- `update((Z, N), r)` of 10_state.md R35. -/
def updateZN (r : Byte) (p : Byte) : Byte := setFlag .n (bitAt 7 r) (setFlag .z (r == 0) p)

/-- `A + op + P.C` as an integer (41_alu.md R130). -/
def addSum (a op : Byte) (c : Bool) : Nat := a.toNat + op.toNat + c.toNat

/-- `sum mod 256` (R130). -/
def addResult (a op : Byte) (c : Bool) : Byte := BitVec.ofNat 8 (addSum a op c)

/-- The V of R130: the operands have the same sign and the result's sign differs. -/
def addOverflow (a op : Byte) (c : Bool) : Bool :=
  (bitAt 7 a == bitAt 7 op) && (bitAt 7 (addResult a op c) != bitAt 7 a)

/-- P after the addition of R130: C, V, then the generic update. D plays no part (10_state.md R31). -/
def addFlags (a op : Byte) (c : Bool) (p : Byte) : Byte :=
  updateZN (addResult a op c) (setFlag .v (addOverflow a op c) (setFlag .c (decide (addSum a op c > 255)) p))

/-- `diff <- register - operand`, an integer (41_alu.md R136). -/
def compareDiff (r op : Byte) : Int := (r.toNat : Int) - (op.toNat : Int)

/-- P after the compare of R136. -/
def compareFlags (r op : Byte) (p : Byte) : Byte :=
  setFlag .n (bitAt 7 (BitVec.ofInt 8 (compareDiff r op)))
    (setFlag .z (decide (compareDiff r op = 0)) (setFlag .c (decide (0 ≤ compareDiff r op)) p))

/-- P after BIT (41_alu.md R135). -/
def bitTestFlags (a op : Byte) (p : Byte) : Byte :=
  setFlag .v (bitAt 6 op) (setFlag .n (bitAt 7 op) (setFlag .z (a &&& op == 0) p))

/-- P after a shift or rotate whose bit shifted out is `carry` and whose result is `r` (41_alu.md R145-R148). -/
def shiftFlags (carry : Bool) (r : Byte) (p : Byte) : Byte := updateZN r (setFlag .c carry p)

/-- A carry as a byte. -/
def carryByte (c : Bool) : Byte := if c then 1 else 0

/-- ASL's result (R145). -/
def aslResult (v : Byte) : Byte := v <<< 1

/-- LSR's result (R146). -/
def lsrResult (v : Byte) : Byte := v >>> 1

/-- ROL's result (R147). -/
def rolResult (v : Byte) (c : Bool) : Byte := (v <<< 1) ||| carryByte c

/-- ROR's result (R148). -/
def rorResult (v : Byte) (c : Bool) : Byte := (v >>> 1) ||| (carryByte c <<< 7)

/-- `(p & 0xCF) | (to_int(P) & 0x30)`: bits 4 and 5 are kept (43_load_store_stack_flags.md R185). -/
def mergeStatus (pulled old : Byte) : Byte := (pulled &&& 0xCF) ||| (old &&& 0x30)

/-- The copy of P that PHP and BRK push: bits 4 and 5 forced to 1 (43 R183, 42 R162). -/
def breakStatus (p : Byte) : Byte := p ||| 0x30

/-- The copy of P that NMI service pushes: break1 cleared, break2 set (60_exceptions.md R223). -/
def nmiStatus (p : Byte) : Byte := (p &&& ~~~0x10#8) ||| 0x20

end Sys2Proof.Machine
end

