-- ==== Sys2Proof/Machine/Bits.lean ====
section
/-! DEFINITION. The bit-field, sign-extension and byte-order helpers of 00_scope.md R7, R8 and 20_memory.md R58. -/

namespace Sys2Proof.Machine

/-- `(h, l)` of R7: the u16 with high byte `h` and low byte `l`. -/
def mk16 (h l : Byte) : Word := h ++ l

/-- `w[15:8]` (R7). -/
def hiByte (w : Word) : Byte := w.extractLsb' 8 8

/-- `w[7:0]` (R7). -/
def loByte (w : Word) : Byte := w.extractLsb' 0 8

/-- `sext_16(b)` (R8): two's complement sign extension. -/
def sext16 (b : Byte) : Word := b.signExtend 16

/-- `zext_16(b)` (R8). -/
def zext16 (b : Byte) : Word := b.setWidth 16

/-- The lowest `k` bytes of `w`, the least significant first (R58). -/
def bytesOfNat (k w : Nat) : List Byte :=
  match k with
  | 0 => []
  | k + 1 => BitVec.ofNat 8 w :: bytesOfNat k (w / 256)

end Sys2Proof.Machine
end

