-- ==== Sys2Proof/Config.lean ====
section
/-! DEFINITION. The parameters of 00_scope.md R6 as types, and the free values: what the spec leaves to the cartridge, the
host or the power-on instant. A free value is an opaque constant without a body, so a theorem holds for every value of it. -/

namespace Sys2Proof

/-- `BRK_MODE` (R6, 42_control_flow.md R162). -/
inductive BrkMode where
  | vector
  | halt
  deriving DecidableEq, Repr, Inhabited

/-- `MIRRORING` (R6, 60_exceptions.md R248). -/
inductive Mirroring where
  | horizontal
  | vertical
  deriving DecidableEq, Repr, Inhabited

/-- The number of 16 KiB PRG banks (20_memory.md R63, R64): `|PRG_ROM|` is 16384 or 32768. -/
inductive PrgBanks where
  | one
  | two
  deriving DecidableEq, Repr, Inhabited

/-- One RGB triple of the frame buffer and of `SYSTEM_PALETTE` (60_exceptions.md R278). That a component is 8 bits wide is the model's
choice: the spec says only 'RGB triples' and gives no range (DESIGN CHOICE, unsafe; log 22). -/
structure Rgb where
  r : Byte
  g : Byte
  b : Byte
  deriving DecidableEq, Repr, Inhabited

/-- The parameters of R6 that instructions consult. No step changes them (assumption log 4). -/
structure Params where
  /-- `BRK_MODE`. -/
  brkMode : BrkMode
  /-- `PPUDATA_READ_BUFFERED` (60_exceptions.md R258). -/
  readBuffered : Bool
  deriving DecidableEq, Repr

/-- Power-on content of `ram[i]`: a draw (10_state.md R44; log 6). -/
opaque Config.powerOnRam : Nat → Byte

/-- Power-on content of `ppu.oam[i]`: a draw (R44; log 6). -/
opaque Config.powerOnOam : Nat → Byte

/-- Power-on content of `ppu.vram[i]`: a draw (R44; log 6). -/
opaque Config.powerOnVram : Nat → Byte

/-- Power-on content of `ppu.palette[i]`: a draw (R44; log 6). -/
opaque Config.powerOnPalette : Nat → Byte

/-- The frame buffer's pixel `i = 256 * y + x` before the first render: unspecified (R43; log 18). -/
opaque Config.powerOnPixel : Nat → Rgb

/-- Byte `i` of the cartridge's PRG image: the parameter `PRG_ROM` (R6; log 5). -/
opaque Config.prgImage : Nat → Byte

/-- Byte `i` of the cartridge's CHR image: the parameter `CHR_ROM` (R6; log 5). -/
opaque Config.chrImage : Nat → Byte

/-- The cartridge's bank count (R63; log 5). -/
opaque Config.prgBanks : PrgBanks

/-- The cartridge's nametable mirroring (R63; log 5). -/
opaque Config.mirroring : Mirroring

/-- The OPEN parameter `PPUDATA_READ_BUFFERED` of the reset machine (92_eei_decisions.md D25; log 5). -/
opaque Config.readBuffered : Bool

/-- The parameter `START_PC` of the reset machine (70_reset_and_hazards.md R291; log 5). -/
opaque Config.startPc : Option Word

/-- The OPEN parameter `SYSTEM_PALETTE`: 64 RGB triples, indexed by six bits (60_exceptions.md R278; log 5). -/
opaque Config.systemPalette : BitVec 6 → Rgb

/-- The `k`-th `any u8` the machine takes: APU register reads (20_memory.md R50) and the button bytes the host writes
(60_exceptions.md R275); log 7. -/
opaque Config.freeByte : Nat → Byte

end Sys2Proof
end

