-- ==== Sys2Proof/Machine/Mem.lean ====
section
/-! DEFINITION. Memory as plain data: a list of (index, value) cells with strictly rising indexes. A cell is listed when something
wrote it. An unlisted index holds no written value, so no entry can equal what it holds and equal memories are equal lists; what
READING it gives is `unlistedByte`, in one place: the power-on draw of 10_state.md R44, or the cartridge image (log 5, log 6). -/

namespace Sys2Proof.Machine

/-- The value written at index `a`, if any. -/
def cellsGet {β : Type} (a : Nat) (m : List (Nat × β)) : Option β :=
  match m with
  | [] => none
  | (k, v) :: t => if k = a then some v else cellsGet a t

/-- Write `v` at index `a`, keeping the indexes strictly rising. -/
def cellsPut {β : Type} (a : Nat) (v : β) (m : List (Nat × β)) : List (Nat × β) :=
  match m with
  | [] => [(a, v)]
  | (k, w) :: t =>
    if a < k then (a, v) :: (k, w) :: t
    else if a = k then (a, v) :: t
    else (k, w) :: cellsPut a v t

/-- The canonical form: indexes strictly rising, from `lo` on, all below `size`. -/
def cellsWf {β : Type} (lo size : Nat) (m : List (Nat × β)) : Bool :=
  match m with
  | [] => true
  | (k, _) :: t => decide (lo ≤ k) && decide (k < size) && cellsWf (k + 1) size t

/-- A memory of bytes: (address, byte) pairs in canonical form. -/
abbrev Memory := List Host.Cell

/-- The six byte storages of 10_state.md R37, R38. -/
inductive Storage where
  /-- CPU RAM, 2048 bytes. -/
  | ram
  /-- The sprite table, 256 bytes. -/
  | oam
  /-- Nametable RAM, 2048 bytes. -/
  | vram
  /-- Palette RAM, 32 bytes. -/
  | palette
  /-- The cartridge's PRG ROM. -/
  | prg
  /-- The cartridge's CHR ROM, 8192 bytes. -/
  | chr
  deriving DecidableEq, Repr

/-- How many bytes a RAM storage has; for PRG ROM, the most it can have (R37, R38). -/
def Storage.size (st : Storage) : Nat :=
  match st with
  | .ram => 2048
  | .oam => 256
  | .vram => 2048
  | .palette => 32
  | .prg => 32768
  | .chr => 8192

/-- What an unlisted byte reads as: a power-on draw (10_state.md R44) or a byte of the cartridge image (00_scope.md R6). -/
def unlistedByte (st : Storage) (i : Nat) : Byte :=
  match st with
  | .ram => Config.powerOnRam i
  | .oam => Config.powerOnOam i
  | .vram => Config.powerOnVram i
  | .palette => Config.powerOnPalette i
  | .prg => Config.prgImage i
  | .chr => Config.chrImage i

/-- The byte at index `i` of storage `st` whose written cells are `m`. -/
def Memory.read (st : Storage) (m : Memory) (i : Nat) : Byte := (cellsGet i m).getD (unlistedByte st i)

/-- The memory after writing `v` at index `i`. -/
def Memory.write (i : Nat) (v : Byte) (m : Memory) : Memory := cellsPut i v m

/-- The canonical form of a memory of storage `st`. -/
def Memory.wf (st : Storage) (m : Memory) : Bool := cellsWf 0 st.size m

/-- A whole image as cells: byte `i` of the list at index `i`. -/
def cellsOfBytes (bs : List Byte) : Memory := bs.zipIdx.map fun c => (c.2, c.1)

end Sys2Proof.Machine
end

