-- ==== Sys2Proof/Machine/Cartridge.lean ====
section
/-! DEFINITION. The cartridge: PRG ROM as the CPU sees it (20_memory.md R51), CHR ROM, and the acceptance of an iNES image
(R63, R64), whose refusal is the configuration error of 60_exceptions.md R216. -/

namespace Sys2Proof.Machine

/-- The accepted cartridge (20_memory.md R63). No step changes it (R51, R52). -/
structure Cartridge where
  banks : PrgBanks
  prg : Memory
  chr : Memory
  mirroring : Mirroring
  deriving DecidableEq, Repr

/-- `|PRG_ROM|` in bytes (10_state.md R37). -/
def prgSize (b : PrgBanks) : Nat :=
  match b with
  | .one => 16384
  | .two => 32768

/-- `prg[(a - 0x8000) mod |PRG_ROM|]` for a CPU address `a` of 0x8000-0xFFFF (20_memory.md R51). -/
def prgByte (c : Cartridge) (a : Word) : Byte := Memory.read .prg c.prg ((a.toNat - 0x8000) % prgSize c.banks)

/-- The little-endian word at `a`, `a + 1` of PRG ROM: a vector (20_memory.md R58, R62). -/
def prgWord (c : Cartridge) (a : Word) : Word := mk16 (prgByte c (a + 1)) (prgByte c a)

/-- `ppu.chr[i]` (60_exceptions.md R248). -/
def chrByte (c : Cartridge) (i : Nat) : Byte := Memory.read .chr c.chr i

/-- Why a cartridge image is refused before execution (20_memory.md R64; 60_exceptions.md R216). -/
inductive CartridgeError where
  | badSignature
  | unsupportedMapper
  | unsupportedVersion
  | prgBankCount
  | chrBankCount
  | fourScreen
  | fileTooShort
  deriving DecidableEq, Repr

/-- What the 16-byte header fixes (20_memory.md R63). -/
structure Header where
  banks : PrgBanks
  mirroring : Mirroring
  /-- A 512-byte trainer follows the header; it is skipped and never mapped. -/
  trainer : Bool
  deriving DecidableEq, Repr

/-- `mapper = (byte7 & 0xF0) | (byte6 >> 4)` (R63). -/
def mapperNumber (byte6 byte7 : Byte) : Byte := (byte7 &&& (0xF0 : Byte)) ||| (byte6 >>> 4)

/-- `prg_banks` in 1, 2 (R64). -/
def prgBanksOf (byte4 : Byte) : Option PrgBanks :=
  match byte4.toNat with
  | 1 => some .one
  | 2 => some .two
  | _ => none

/-- Where PRG ROM starts in the file: after the header and the trainer, if present (R63). -/
def prgOffset (trainer : Bool) : Nat := if trainer then 528 else 16

/-- The checks of R64 on the header `h` of a file of `fileLength` bytes. Battery RAM (`byte6[1]`) is ignored. -/
def acceptHeader (h : List Byte) (fileLength : Nat) : Except CartridgeError Header :=
  let byte := fun k => h.getD k 0
  let trainer := (byte 6).getLsbD 2
  if h.take 4 ≠ [0x4E, 0x45, 0x53, 0x1A] then .error .badSignature
  else if mapperNumber (byte 6) (byte 7) ≠ 0 then .error .unsupportedMapper
  else if (byte 7 >>> 2) &&& 0x03 = 0x02 then .error .unsupportedVersion
  else
    match prgBanksOf (byte 4) with
    | none => .error .prgBankCount
    | some banks =>
      if byte 5 ≠ 1 then .error .chrBankCount
      else if (byte 6).getLsbD 3 then .error .fourScreen
      else if fileLength < prgOffset trainer + prgSize banks + 8192 then .error .fileTooShort
      else .ok ⟨banks, if (byte 6).getLsbD 0 then .vertical else .horizontal, trainer⟩

/-- `Configure(image)` of 70_reset_and_hazards.md R292: the cartridge of an accepted image, or why it is refused (R63, R64). -/
def configure (image : List Byte) : Except CartridgeError Cartridge :=
  match acceptHeader (image.take 16) image.length with
  | .error e => .error e
  | .ok h =>
    let prg := image.drop (prgOffset h.trainer)
    .ok ⟨h.banks, cellsOfBytes (prg.take (prgSize h.banks)), cellsOfBytes ((prg.drop (prgSize h.banks)).take 8192), h.mirroring⟩

end Sys2Proof.Machine
end

