-- ==== Sys2Proof/Machine/State.lean ====
section
/-! DEFINITION. The state of the machine as plain data (10_state.md), the reasons a step stops, and the state after reset. -/

namespace Sys2Proof.Machine

/-- The CPU registers, as a fault record carries them (60_exceptions.md R217). -/
structure Regs where
  a : Byte
  x : Byte
  y : Byte
  sp : Byte
  p : Byte
  pc : Word
  deriving DecidableEq, Repr

/-- The fault record `(kind, info)` of 60_exceptions.md R215 with the registers of R217. Every one is fatal. All are SAFE: the
spec itself stops the machine there, and the state left behind is unspecified (R217), so the step answers none. `pc0` is the
address of the instruction's opcode, `addr` the CPU address as issued. -/
inductive Fault where
  /-- Raised by the 25 refused opcodes (30_encoding.md R90), before any operand byte is read. Safe. -/
  | illegalOpcode (pc0 : Word) (opc : Byte) (regs : Regs)
  /-- Raised by a write to 0x8000-0xFFFF (20_memory.md R52). Safe. -/
  | romWrite (pc0 addr : Word) (value : Byte) (regs : Regs)
  /-- Raised by a read of PPU port 0x2000, 0x2001, 0x2003, 0x2005, 0x2006 or of 0x4014 (60_exceptions.md R261, 20_memory.md R50). Safe. -/
  | writeOnlyRead (pc0 addr : Word) (regs : Regs)
  /-- Raised by a write to PPU port 0x2002 (60_exceptions.md R262). Safe. -/
  | readOnlyWrite (pc0 addr : Word) (value : Byte) (regs : Regs)
  /-- Raised by a write to port 0x2007 while `ppu.v` is below 0x2000 (60_exceptions.md R259). Safe. -/
  | chrWrite (pc0 addr : Word) (value : Byte) (vaddr : Word) (regs : Regs)
  /-- Raised by any access to 0x4020-0x7FFF (20_memory.md R47); `value` is given for a write. Safe. -/
  | unmappedAccess (pc0 addr : Word) (value : Option Byte) (regs : Regs)
  deriving DecidableEq, Repr

/-- Why the model gives an instruction no meaning. -/
inductive Refusal where
  /-- Raised by an arm of `exec` whose instruction is not modelled yet; no arm raises it now. Safe. -/
  | notModelled (mnemonic : String)
  deriving DecidableEq, Repr

/-- The PPU (10_state.md R39). -/
structure Ppu where
  /-- $2000, layout 60_exceptions.md R245. -/
  ctrl : Byte
  /-- $2001, layout R246. -/
  mask : Byte
  /-- $2002, layout R247. -/
  status : Byte
  /-- $2003. -/
  oamAddr : Byte
  /-- The sprite table. -/
  oam : Memory
  /-- Nametable RAM. -/
  vram : Memory
  /-- Palette RAM. -/
  palette : Memory
  /-- The VRAM address, always below 0x4000. -/
  v : Word
  /-- $2006 expects its first (high) byte. -/
  addrFirst : Bool
  scrollX : Byte
  scrollY : Byte
  /-- $2005 expects its first byte. -/
  scrollFirst : Bool
  /-- The buffered $2007 byte. -/
  readBuffer : Byte
  /-- 0 to 261. -/
  scanline : Nat
  /-- 0 to 340. -/
  dot : Nat
  nmiPending : Bool
  /-- The frame buffer: pixel `256 * y + x`. -/
  frame : List (Nat × Rgb)
  deriving DecidableEq, Repr

/-- One joypad (10_state.md R40). -/
structure Pad where
  /-- Bit 0 A, 1 B, 2 Select, 3 Start, 4 Up, 5 Down, 6 Left, 7 Right. -/
  buttons : Byte
  strobe : Bool
  /-- 0 to 8, the next bit to shift out. -/
  index : Nat
  deriving DecidableEq, Repr

/-- Everything the spec gives the machine (INVENTORY.md, State). -/
structure State where
  /-- Accumulator (R21). -/
  a : Byte
  /-- Index register X (R22). -/
  x : Byte
  /-- Index register Y (R23). -/
  y : Byte
  /-- Stack pointer (R24). -/
  sp : Byte
  /-- Status register (R26, R27). -/
  p : Byte
  /-- Program counter (R25). -/
  pc : Word
  /-- The run loop executes only while it is true (R41). -/
  running : Bool
  /-- The total of every Tick since reset (R41). -/
  cycles : Nat
  /-- None, or the fault record of a run that has ended (R41; log 2). -/
  fault : Option Fault
  /-- CPU RAM (R37). -/
  ram : Memory
  /-- The cartridge (20_memory.md R63). -/
  cart : Cartridge
  /-- The parameters instructions consult (00_scope.md R6; log 4). -/
  params : Params
  ppu : Ppu
  /-- The joypad at 0x4016. -/
  pad1 : Pad
  /-- The joypad at 0x4017. -/
  pad2 : Pad
  /-- The model's own input field: the host's stop request at the next step boundary (60_exceptions.md R279; log 8). -/
  stopRequest : Bool
  /-- The model's own field: how many free bytes have been drawn (log 7). -/
  draws : Nat
  deriving DecidableEq, Repr

/-- The PPU after reset (10_state.md R43, R44). -/
def Ppu.reset : Ppu :=
  { ctrl := 0, mask := 0, status := 0, oamAddr := 0, oam := [], vram := [], palette := [], v := 0, addrFirst := true, scrollX := 0,
    scrollY := 0, scrollFirst := true, readBuffer := 0, scanline := 0, dot := 0, nmiPending := false, frame := [] }

/-- A joypad after reset (10_state.md R43). -/
def Pad.reset : Pad := { buttons := 0, strobe := false, index := 0 }

/-- The PC after reset (70_reset_and_hazards.md R291): START_PC when given, else the reset vector. -/
def resetPc (startPc : Option Word) (c : Cartridge) : Word :=
  match startPc with
  | some w => w
  | none => prgWord c 0xFFFC

/-- `Reset(image, START_PC)` of 70_reset_and_hazards.md R292 for an accepted cartridge. -/
def State.powerOn (params : Params) (startPc : Option Word) (c : Cartridge) : State :=
  { a := 0, x := 0, y := 0, sp := 0xFD, p := 0x24, pc := resetPc startPc c, running := true, cycles := 0, fault := none, ram := [],
    cart := c, params := params, ppu := Ppu.reset, pad1 := Pad.reset, pad2 := Pad.reset, stopRequest := false, draws := 0 }

/-- Reset from a cartridge file: refused as a configuration error, with no machine state, when R64 refuses it (60_exceptions.md R216). -/
def State.load (params : Params) (startPc : Option Word) (image : List Byte) : Except CartridgeError State :=
  match configure image with
  | .error e => .error e
  | .ok c => .ok (State.powerOn params startPc c)

/-- The cartridge of the reset machine: every byte and both header choices are free values (log 5). -/
def Cartridge.free : Cartridge :=
  { banks := Config.prgBanks, prg := [], chr := [], mirroring := Config.mirroring }

/-- The machine right after reset. `BRK_MODE` is `Vector`, the default of 92_eei_decisions.md D8 (log 4); every other parameter is free. -/
def State.reset : State :=
  State.powerOn { brkMode := .vector, readBuffered := Config.readBuffered } Config.startPc Cartridge.free

end Sys2Proof.Machine
end

