-- ==== Sys2Proof/Machine/Joypad.lean ====
section
/-! DEFINITION. The joypads (60_exceptions.md R268-R270). -/

namespace Sys2Proof.Machine

/-- A write of `v` to 0x4016, as one pad sees it (R269). -/
def padStrobe (v : Byte) (j : Pad) : Pad := { j with strobe := bitAt 0 v, index := if bitAt 0 v then 0 else j.index }

/-- The byte a read of the pad's port returns (R270). -/
def padBit (j : Pad) : Byte := if j.index ≥ 8 then 1 else (j.buttons >>> j.index) &&& 1

/-- What a read of the pad's port leaves (R270). -/
def padAfterRead (j : Pad) : Pad := if j.index ≥ 8 ∨ j.strobe then j else { j with index := j.index + 1 }

end Sys2Proof.Machine
end

