-- ==== Sys2Proof/Machine/Ppu.lean ====
section
/-! DEFINITION. The PPU: its VRAM space and mirroring (60_exceptions.md R248, R249), the effect of each port access on it
(R250-R260), and its advance in time (R240-R243). -/

namespace Sys2Proof.Machine

/-- The mirroring function `NtIndex` of R248. -/
def ntIndex (m : Mirroring) (a : Nat) : Nat :=
  let r := (a - 0x2000) % 0x1000
  match m with
  | .vertical => r % 0x800
  | .horizontal => r / 0x400 / 2 * 0x400 + r % 0x400

/-- `PalIndex` of R249: 0x10, 0x14, 0x18, 0x1C alias 0x00, 0x04, 0x08, 0x0C. -/
def palIndex (a : Nat) : Nat :=
  let i := a % 0x20
  if i = 0x10 ∨ i = 0x14 ∨ i = 0x18 ∨ i = 0x1C then i - 0x10 else i

/-- The three regions of the PPU VRAM space (R248). -/
inductive VramRegion where
  | chrRom
  | nametable
  | palette
  deriving DecidableEq, Repr

/-- The region of a VRAM address (R248). -/
def vramRegion (a : Nat) : VramRegion :=
  if a < 0x2000 then .chrRom else if a < 0x3F00 then .nametable else .palette

/-- `VramRead(a)` of R248. -/
def vramRead (c : Cartridge) (u : Ppu) (a : Nat) : Byte :=
  match vramRegion a with
  | .chrRom => chrByte c a
  | .nametable => Memory.read .vram u.vram (ntIndex c.mirroring a)
  | .palette => Memory.read .palette u.palette (palIndex a)

/-- `VramWrite(a, v)` of R248; a CHR address is the fault of R259, raised at the port, and changes nothing here. -/
def vramWrite (m : Mirroring) (a : Nat) (v : Byte) (u : Ppu) : Ppu :=
  match vramRegion a with
  | .chrRom => u
  | .nametable => { u with vram := Memory.write (ntIndex m a) v u.vram }
  | .palette => { u with palette := Memory.write (palIndex a) v u.palette }

/-- `VramIncrement()` of R260: by 1 or 32, kept to 14 bits. -/
def vramIncrement (u : Ppu) : Ppu :=
  { u with v := (u.v + (if bitAt 2 u.ctrl then 32 else 1)) &&& 0x3FFF }

/-- Write 0x2000 (R250): a 0 to 1 change of bit 7 while vblank is set raises the NMI at once. -/
def ppuWriteControl (v : Byte) (u : Ppu) : Ppu :=
  { u with ctrl := v, nmiPending := u.nmiPending || (!bitAt 7 u.ctrl && bitAt 7 v && bitAt 7 u.status) }

/-- Write 0x2001 (R251). -/
def ppuWriteMask (v : Byte) (u : Ppu) : Ppu := { u with mask := v }

/-- What a read of 0x2002 leaves (R252): vblank cleared, both two-write latches at their first write. -/
def ppuAfterStatusRead (u : Ppu) : Ppu :=
  { u with status := u.status &&& 0x7F, addrFirst := true, scrollFirst := true }

/-- Write 0x2003 (R253). -/
def ppuWriteOamAddr (v : Byte) (u : Ppu) : Ppu := { u with oamAddr := v }

/-- Write 0x2004, and each byte of OAM-DMA (R254, 20_memory.md R54). -/
def ppuWriteOamData (v : Byte) (u : Ppu) : Ppu :=
  { u with oam := Memory.write u.oamAddr.toNat v u.oam, oamAddr := u.oamAddr + 1 }

/-- Read 0x2004 (R255). -/
def ppuOamData (u : Ppu) : Byte := Memory.read .oam u.oam u.oamAddr.toNat

/-- Write 0x2005 (R256). -/
def ppuWriteScroll (v : Byte) (u : Ppu) : Ppu :=
  if u.scrollFirst then { u with scrollX := v, scrollFirst := false } else { u with scrollY := v, scrollFirst := true }

/-- Write 0x2006 (R257): each write takes effect at once, the address is kept to 14 bits. -/
def ppuWriteAddress (v : Byte) (u : Ppu) : Ppu :=
  if u.addrFirst then { u with v := mk16 v (loByte u.v) &&& 0x3FFF, addrFirst := false }
  else { u with v := mk16 (hiByte u.v) v &&& 0x3FFF, addrFirst := true }

/-- A read of 0x2007 takes the buffered byte: `PPUDATA_READ_BUFFERED` and the address below 0x3F00 (R258). -/
def readsBuffer (buffered : Bool) (u : Ppu) : Bool := buffered && decide (u.v.toNat < 0x3F00)

/-- The byte a read of 0x2007 returns (R258). -/
def ppuData (c : Cartridge) (buffered : Bool) (u : Ppu) : Byte :=
  if readsBuffer buffered u then u.readBuffer else vramRead c u u.v.toNat

/-- What a read of 0x2007 leaves (R258, R260). -/
def ppuAfterDataRead (c : Cartridge) (buffered : Bool) (u : Ppu) : Ppu :=
  vramIncrement (if readsBuffer buffered u then { u with readBuffer := vramRead c u u.v.toNat } else u)

/-- Write 0x2007 with `ppu.v` at least 0x2000 (R259, R260). -/
def ppuWriteData (m : Mirroring) (v : Byte) (u : Ppu) : Ppu := vramIncrement (vramWrite m u.v.toNat v u)

/-- `Sprite0Hit(line, d)` of R243. -/
def sprite0Hit (line d : Nat) (u : Ppu) : Bool :=
  decide ((Memory.read .oam u.oam 0).toNat = line) && decide ((Memory.read .oam u.oam 3).toNat ≤ d) && bitAt 3 u.mask && bitAt 4 u.mask

/-- Latch sprite-0 hit (R240, R243). -/
def latchSprite0 (line : Nat) (u : Ppu) : Ppu :=
  if sprite0Hit line u.dot u then { u with status := u.status ||| 0x40 } else u

/-- `VblankEnter()` of R241. -/
def vblankEnter (u : Ppu) : Ppu := { u with status := u.status ||| 0x80, nmiPending := u.nmiPending || bitAt 7 u.ctrl }

/-- `FrameEnd()` of R242. -/
def frameEnd (u : Ppu) : Ppu := { u with scanline := 0, status := u.status &&& 0x3F, nmiPending := false }

/-- The part of `PpuAdvance` that a completed scanline triggers (R240). -/
def lineDone (u : Ppu) : Ppu :=
  let u1 := latchSprite0 u.scanline { u with scanline := u.scanline + 1 }
  let u2 := if u1.scanline = 241 then vblankEnter u1 else u1
  if u2.scanline ≥ 262 then frameEnd u2 else u2

/-- `PpuAdvance(n)` of R240. -/
def ppuAdvance (n : Nat) (u : Ppu) : Ppu :=
  if u.dot + n ≥ 341 then lineDone { u with dot := (u.dot + n) % 341 } else { u with dot := u.dot + n }

end Sys2Proof.Machine
end

