-- ==== Sys2Proof/Machine/Render.lean ====
section
/-! DEFINITION. The render pass (60_exceptions.md R276-R278), pixel by pixel: for each pixel of the frame, the last of the writes
that the drawing order of R276 and R277 makes to it, or its old content where that order makes none (logs 13, 14). -/

namespace Sys2Proof.Machine

/-- `SYSTEM_PALETTE[e & 0x3F]` (R276). -/
def systemColour (e : Byte) : Rgb := Config.systemPalette (e.setWidth 6)

/-- `(hi[k] << 1) | lo[k]`: the two bitplanes of pattern row `addr` at bit `k` (R276, R277). -/
def patternBits (c : Cartridge) (addr k : Nat) : Nat :=
  2 * (bitAt k (chrByte c (addr + 8))).toNat + (bitAt k (chrByte c addr)).toNat

/-- The colour `DrawTable(h, ...)` gives the nametable pixel `(px, py)` (R276). -/
def tablePixel (c : Cartridge) (u : Ppu) (h px py : Nat) : Rgb :=
  let col := px / 8
  let row := py / 8
  let base := 0x1000 * (bitAt 4 u.ctrl).toNat
  let tile := (Memory.read .vram u.vram (h * 0x400 + (row * 32 + col))).toNat
  let attr := (Memory.read .vram u.vram (h * 0x400 + 0x3C0 + row / 4 * 8 + col / 4)).toNat
  let q := row % 4 / 2 * 2 + col % 4 / 2
  let pal := attr / 2 ^ (2 * q) % 4
  let k := patternBits c (base + 16 * tile + py % 8) (7 - px % 8)
  systemColour (Memory.read .palette u.palette (if k = 0 then 0 else 4 * pal + k))

/-- The physical half of the main nametable: `NtIndex(0x2000 + 0x400 * ctrl[1:0]) div 0x400` (R276). -/
def mainTable (c : Cartridge) (u : Ppu) : Nat := ntIndex c.mirroring (0x2000 + 0x400 * (u.ctrl.toNat % 4)) / 0x400

/-- The background's last write to the frame pixel `(fx, fy)`, if any: the main table shifted by the scroll, then the second table
over the scrolled-over strip; a table has 240 pixel rows, so a scroll above 240 leaves rows unwritten (R276; log 13). -/
def backgroundPixel (c : Cartridge) (u : Ppu) (fx fy : Nat) : Option Rgb :=
  let sx := u.scrollX.toNat
  let sy := u.scrollY.toNat
  let main := mainTable c u
  if sx > 0 ∧ 256 ≤ fx + sx then some (tablePixel c u (1 - main) (fx + sx - 256) fy)
  else if sx = 0 ∧ 240 ≤ fy + sy ∧ fy + sy < 480 then some (tablePixel c u (1 - main) fx (fy + sy - 240))
  else if fx + sx < 256 ∧ fy + sy < 240 then some (tablePixel c u main (fx + sx) (fy + sy))
  else none

/-- The sprite height (R277). -/
def spriteHeight (u : Ppu) : Nat := if bitAt 5 u.ctrl then 16 else 8

/-- The address of sprite pattern row `r` for tile byte `t` (R277). -/
def spriteRowAddr (u : Ppu) (t : Byte) (r : Nat) : Nat :=
  if bitAt 5 u.ctrl then 0x1000 * (bitAt 0 t).toNat + 16 * ((t &&& 0xFE).toNat + r / 8) + r % 8
  else 0x1000 * (bitAt 3 u.ctrl).toNat + 16 * t.toNat + r

/-- What sprite `k` writes to the frame pixel `(fx, fy)`, if anything (R277). -/
def spritePixel (c : Cartridge) (u : Ppu) (fx fy k : Nat) : Option Rgb :=
  let sy := (Memory.read .oam u.oam (4 * k)).toNat
  let t := Memory.read .oam u.oam (4 * k + 1)
  let attr := Memory.read .oam u.oam (4 * k + 2)
  let sx := (Memory.read .oam u.oam (4 * k + 3)).toNat
  let row := fy - sy
  let col := fx - sx
  if sy ≤ fy ∧ row < spriteHeight u ∧ sx ≤ fx ∧ col < 8 then
    let r := if bitAt 7 attr then spriteHeight u - 1 - row else row
    let s := if bitAt 6 attr then 7 - col else col
    let cl := patternBits c (spriteRowAddr u t r) (7 - s)
    if cl = 0 then none else some (systemColour (Memory.read .palette u.palette (0x10 + 4 * (attr.toNat % 4) + cl)))
  else none

/-- The sprites' last write to the frame pixel: sprites are drawn from 63 down to 0, so the lowest number wins (R277). -/
def spritesPixel (c : Cartridge) (u : Ppu) (fx fy : Nat) : Option Rgb :=
  (List.range 64).findSome? (spritePixel c u fx fy)

/-- The frame pixel `256 * y + x` before any render is unspecified (10_state.md R43). -/
def framePixel (u : Ppu) (i : Nat) : Rgb := (cellsGet i u.frame).getD (Config.powerOnPixel i)

/-- The frame pixel after the render pass. -/
def renderPixel (c : Cartridge) (u : Ppu) (i : Nat) : Rgb :=
  ((spritesPixel c u (i % 256) (i / 256)).or (backgroundPixel c u (i % 256) (i / 256))).getD (framePixel u i)

/-- `Render()` of R276: the whole frame, row-major (R278). -/
def renderFrame (c : Cartridge) (u : Ppu) : List (Nat × Rgb) := (List.range 61440).map fun i => (i, renderPixel c u i)

/-- `Render()` changes the frame and no other state (R276). -/
def render (c : Cartridge) (u : Ppu) : Ppu := { u with frame := renderFrame c u }

end Sys2Proof.Machine
end

