-- ==== Sys2Proof/Machine/Ops.lean ====
section
/-! DEFINITION. The named operations over registers and memory: register updates, the bus (20_memory.md R45-R54), the stack
(40_execute_and_addressing.md R120-R122), the tick with the host frame (20 R56, 60 R275), taking a trap and returning from one
(60 R227, R228), NMI service (60 R223). -/

namespace Sys2Proof.Machine

/-- What one step or one instruction answers. -/
abbrev Out := Host.Outcome State Fault Refusal

/-- What an access answers: a value and the state it leaves, or the fault that ends the instruction (20_memory.md R53). -/
inductive Res (α : Type) where
  | ok (val : α) (s : State)
  | fault (f : Fault)
  deriving DecidableEq, Repr

def State.setA (v : Byte) (s : State) : State := { s with a := v }
def State.setX (v : Byte) (s : State) : State := { s with x := v }
def State.setY (v : Byte) (s : State) : State := { s with y := v }
def State.setSp (v : Byte) (s : State) : State := { s with sp := v }
def State.setP (v : Byte) (s : State) : State := { s with p := v }
def State.setPc (v : Word) (s : State) : State := { s with pc := v }
def State.setRunning (v : Bool) (s : State) : State := { s with running := v }
def State.setCycles (v : Nat) (s : State) : State := { s with cycles := v }
def State.setRam (v : Memory) (s : State) : State := { s with ram := v }
def State.setPpu (v : Ppu) (s : State) : State := { s with ppu := v }
def State.setPad1 (v : Pad) (s : State) : State := { s with pad1 := v }
def State.setPad2 (v : Pad) (s : State) : State := { s with pad2 := v }
def State.setDraws (v : Nat) (s : State) : State := { s with draws := v }

/-- The registers as a fault record carries them (60_exceptions.md R217). -/
def State.regs (s : State) : Regs := { a := s.a, x := s.x, y := s.y, sp := s.sp, p := s.p, pc := s.pc }

/-- `PC <- next` where the instruction at PC is `len` bytes long (40_execute_and_addressing.md R100, R104). -/
def State.atNext (len : Nat) (s : State) : State := s.setPc (s.pc + BitVec.ofNat 16 len)

/-- The owners of CPU addresses (20_memory.md R46). -/
inductive Owner where
  | ram
  | ppuPort
  | io
  | unmapped
  | prgRom
  deriving DecidableEq, Repr

/-- The device table of R46. -/
def ownerOf (a : Word) : Owner :=
  if a.toNat < 0x2000 then .ram
  else if a.toNat < 0x4000 then .ppuPort
  else if a.toNat < 0x4020 then .io
  else if a.toNat < 0x8000 then .unmapped
  else .prgRom

/-- The eight PPU ports (20_memory.md R49). -/
inductive Port where
  | control
  | mask
  | status
  | oamAddr
  | oamData
  | scroll
  | address
  | data
  deriving DecidableEq, Repr

/-- Port `0x2000 + (a & 7)` (R49). -/
def portOf (a : Word) : Port :=
  match a.toNat % 8 with
  | 0 => .control
  | 1 => .mask
  | 2 => .status
  | 3 => .oamAddr
  | 4 => .oamData
  | 5 => .scroll
  | 6 => .address
  | _ => .data

/-- The I/O registers (20_memory.md R50). -/
inductive IoReg where
  | oamDma
  | pad1
  | pad2
  | apu
  deriving DecidableEq, Repr

/-- The register at an address of 0x4000-0x401F (R50). -/
def ioRegOf (a : Word) : IoReg :=
  if a = 0x4014 then .oamDma else if a = 0x4016 then .pad1 else if a = 0x4017 then .pad2 else .apu

/-- The RAM cell an address of 0x0000-0x1FFF names: `a & 0x07FF` (20_memory.md R48). -/
def ramIndex (a : Word) : Nat := a.toNat % 0x800

/-- `ram[i]`. -/
def ramByte (s : State) (i : Nat) : Byte := Memory.read .ram s.ram i

/-- `ram[i] <- v`. -/
def ramStore (i : Nat) (v : Byte) (s : State) : State := s.setRam (Memory.write i v s.ram)

/-- A read of PPU port `portOf a` (60_exceptions.md R252, R255, R258, R261). -/
def portRead (pc0 a : Word) (s : State) : Res Byte :=
  match portOf a with
  | .status => .ok s.ppu.status (s.setPpu (ppuAfterStatusRead s.ppu))
  | .oamData => .ok (ppuOamData s.ppu) s
  | .data => .ok (ppuData s.cart s.params.readBuffered s.ppu) (s.setPpu (ppuAfterDataRead s.cart s.params.readBuffered s.ppu))
  | .control => .fault (.writeOnlyRead pc0 a s.regs)
  | .mask => .fault (.writeOnlyRead pc0 a s.regs)
  | .oamAddr => .fault (.writeOnlyRead pc0 a s.regs)
  | .scroll => .fault (.writeOnlyRead pc0 a s.regs)
  | .address => .fault (.writeOnlyRead pc0 a s.regs)

/-- A read of an I/O register (20_memory.md R50, 60_exceptions.md R270); an APU register reads the next free byte. -/
def ioRead (pc0 a : Word) (s : State) : Res Byte :=
  match ioRegOf a with
  | .oamDma => .fault (.writeOnlyRead pc0 a s.regs)
  | .pad1 => .ok (padBit s.pad1) (s.setPad1 (padAfterRead s.pad1))
  | .pad2 => .ok (padBit s.pad2) (s.setPad2 (padAfterRead s.pad2))
  | .apu => .ok (Config.freeByte s.draws) (s.setDraws (s.draws + 1))

/-- `MemRead(a, 1)` by the instruction at `pc0` (00_scope.md R10, 20_memory.md R46-R51). -/
def busRead (pc0 a : Word) (s : State) : Res Byte :=
  match ownerOf a with
  | .ram => .ok (ramByte s (ramIndex a)) s
  | .ppuPort => portRead pc0 a s
  | .io => ioRead pc0 a s
  | .unmapped => .fault (.unmappedAccess pc0 a none s.regs)
  | .prgRom => .ok (prgByte s.cart a) s

/-- The last `n` of the 256 byte copies of OAM-DMA from page `page`, in ascending order (20_memory.md R54). -/
def dmaCopy (pc0 : Word) (page : Byte) (n : Nat) (s : State) : Res Unit :=
  match n with
  | 0 => .ok () s
  | k + 1 =>
    match busRead pc0 (mk16 page (BitVec.ofNat 8 (255 - k))) s with
    | .fault f => .fault f
    | .ok b s1 => dmaCopy pc0 page k (s1.setPpu (ppuWriteOamData b s1.ppu))

/-- A write to PPU port `portOf a` (60_exceptions.md R250-R259, R262). -/
def portWrite (pc0 a : Word) (v : Byte) (s : State) : Res Unit :=
  match portOf a with
  | .control => .ok () (s.setPpu (ppuWriteControl v s.ppu))
  | .mask => .ok () (s.setPpu (ppuWriteMask v s.ppu))
  | .status => .fault (.readOnlyWrite pc0 a v s.regs)
  | .oamAddr => .ok () (s.setPpu (ppuWriteOamAddr v s.ppu))
  | .oamData => .ok () (s.setPpu (ppuWriteOamData v s.ppu))
  | .scroll => .ok () (s.setPpu (ppuWriteScroll v s.ppu))
  | .address => .ok () (s.setPpu (ppuWriteAddress v s.ppu))
  | .data =>
    if s.ppu.v.toNat < 0x2000 then .fault (.chrWrite pc0 a v s.ppu.v s.regs)
    else .ok () (s.setPpu (ppuWriteData s.cart.mirroring v s.ppu))

/-- A write to an I/O register (20_memory.md R50, R54, 60_exceptions.md R269). -/
def ioWrite (pc0 a : Word) (v : Byte) (s : State) : Res Unit :=
  match ioRegOf a with
  | .oamDma => dmaCopy pc0 v 256 s
  | .pad1 => .ok () ((s.setPad1 (padStrobe v s.pad1)).setPad2 (padStrobe v s.pad2))
  | .pad2 => .ok () s
  | .apu => .ok () s

/-- `MemWrite(a, 1, v)` by the instruction at `pc0` (00_scope.md R10, 20_memory.md R46-R54). -/
def busWrite (pc0 a : Word) (v : Byte) (s : State) : Res Unit :=
  match ownerOf a with
  | .ram => .ok () (ramStore (ramIndex a) v s)
  | .ppuPort => portWrite pc0 a v s
  | .io => ioWrite pc0 a v s
  | .unmapped => .fault (.unmappedAccess pc0 a (some v) s.regs)
  | .prgRom => .fault (.romWrite pc0 a v s.regs)

/-- The RAM cell of the stack byte that `sp` designates: `0x0100 + SP` (10_state.md R24). The stack page is RAM, so a stack access is
the bus access of R120 and R121 and never faults (log 11). -/
def stackIndex (sp : Byte) : Nat := 0x100 + sp.toNat

/-- `Push(v)` (40_execute_and_addressing.md R120). -/
def push (v : Byte) (s : State) : State := (ramStore (stackIndex s.sp) v s).setSp (s.sp - 1)

/-- The byte `Pull()` returns (R121). -/
def pulled (s : State) : Byte := ramByte s (stackIndex (s.sp + 1))

/-- The state `Pull()` leaves (R121). -/
def afterPull (s : State) : State := s.setSp (s.sp + 1)

/-- `Push16(w)`: high byte first (R122). -/
def push16 (w : Word) (s : State) : State := push (loByte w) (push (hiByte w) s)

/-- The word `Pull16()` returns: low byte first (R122). -/
def pulled16 (s : State) : Word := mk16 (pulled (afterPull s)) (pulled s)

/-- The state `Pull16()` leaves (R122). -/
def afterPull16 (s : State) : State := afterPull (afterPull s)

/-- `HostFrame()` of 60_exceptions.md R275: render, then the host writes both pads' buttons, two free bytes. -/
def hostFrame (s : State) : State :=
  { s with
    ppu := render s.cart s.ppu
    pad1 := { s.pad1 with buttons := Config.freeByte s.draws }
    pad2 := { s.pad2 with buttons := Config.freeByte (s.draws + 1) }
    draws := s.draws + 2 }

/-- The part of `Tick(n)` before the host is told: the cycle total and the PPU advance (20_memory.md R56). -/
def advanceTime (n : Nat) (s : State) : State := (s.setCycles (s.cycles + n)).setPpu (ppuAdvance (3 * n) s.ppu)

/-- `Tick(n)` of R56: on a 0 to 1 edge of `nmi_pending` the host frame runs. -/
def tick (n : Nat) (s : State) : State :=
  if !s.ppu.nmiPending && (ppuAdvance (3 * n) s.ppu).nmiPending then hostFrame (advanceTime n s) else advanceTime n s

/-- TRAP ENTRY (60_exceptions.md R227), shared by NMI service and BRK: push the return address, high byte first, then the given
copy of the status, and set I. No mode changes: there is one (R231). The caller loads PC from its vector. -/
def trapEntry (ret : Word) (status : Byte) (s : State) : State :=
  let s1 := push status (push16 ret s)
  s1.setP (setFlag .i true s1.p)

/-- TRAP RETURN (R228), the whole of RTI's effect on the registers: the status, bits 4 and 5 kept, then PC, adding nothing. -/
def trapReturn (s : State) : State :=
  let s1 := (afterPull s).setP (mergeStatus (pulled s) s.p)
  (afterPull16 s1).setPc (pulled16 s1)

/-- PC from a vector of PRG ROM, `MemRead(a, 2)`: a ROM read, no side effect and no fault (20_memory.md R51, R62; log 11). -/
def loadVector (a : Word) (s : State) : State := s.setPc (prgWord s.cart a)

/-- `NmiService()` of 60_exceptions.md R223. -/
def nmiService (s : State) : State := loadVector 0xFFFA (tick 2 (trapEntry s.pc (nmiStatus s.p) s))

/-- The NMI poll at the start of a step (R222; 40_execute_and_addressing.md R100). -/
def pollNmi (s : State) : State :=
  if s.ppu.nmiPending then nmiService (s.setPpu { s.ppu with nmiPending := false }) else s

/-- The host's stop request taken at a step boundary (60_exceptions.md R279). -/
def stopRun (s : State) : State := { s with running := false, stopRequest := false }

/-- The host asks for a stop at the next step boundary (R279): an action of the host between steps, no part of any step (log 8). -/
def State.requestStop (s : State) : State := { s with stopRequest := true }

/-- Lay bytes into PRG ROM from index `i` on: the work of whatever loads a cartridge (20_memory.md R63), no action of the machine. -/
def placePrg (i : Nat) (bs : List Byte) (m : Memory) : Memory :=
  match bs with
  | [] => m
  | b :: t => placePrg (i + 1) t (Memory.write i b m)

/-- A one-bank cartridge holding `bs` from 0x8000 on, started there as by `START_PC` = 0x8000 (log 9). -/
def loadProgramAt8000 (bs : List Byte) (s : State) : State :=
  { s with
    cart := { s.cart with banks := .one, prg := placePrg 0 bs s.cart.prg }
    pc := 0x8000, running := true, fault := none, stopRequest := false
    ppu := { s.ppu with nmiPending := false } }

end Sys2Proof.Machine
end

