-- ==== Sys2Proof/Machine/Operands.lean ====
section
/-! DEFINITION. The addressing modes (40_execute_and_addressing.md R106-R119) and the shapes an instruction has: what it reads at
its effective address, what it writes there, and the Tick that ends it (R100, R103-R105, R125). Every shape starts with PC at the
opcode (`pc0`) and first moves it to `next` (R104; log 10). -/

namespace Sys2Proof.Machine

/-- The modes with an effective address in data memory (R111-R114, R117, R118), each with its operand. -/
inductive MemMode where
  | zp (b1 : Byte)
  | zpx (b1 : Byte)
  | zpy (b1 : Byte)
  | abs (addr : Word)
  | abx (addr : Word)
  | aby (addr : Word)
  | izx (b1 : Byte)
  | izy (b1 : Byte)
  deriving DecidableEq, Repr

/-- The instruction's length in bytes: `1 + operand_length` (R106, R126). -/
def MemMode.length (m : MemMode) : Nat :=
  match m with
  | .zp _ => 2
  | .zpx _ => 2
  | .zpy _ => 2
  | .abs _ => 3
  | .abx _ => 3
  | .aby _ => 3
  | .izx _ => 2
  | .izy _ => 2

/-- The little-endian pointer at zero-page addresses `z` and `(z + 1) mod 256` (R117, R118): zero page is RAM, so the two bus reads
have no side effect and no fault (20_memory.md R48; log 11). -/
def zpPointer (z : Byte) (s : State) : Word := mk16 (ramByte s (z + 1).toNat) (ramByte s z.toNat)

/-- The address before Y or X is added, for the modes that can cross a page (R114, R118); for the others the effective address. -/
def MemMode.base (m : MemMode) (s : State) : Word :=
  match m with
  | .zp b1 => zext16 b1
  | .zpx b1 => zext16 (b1 + s.x)
  | .zpy b1 => zext16 (b1 + s.y)
  | .abs addr => addr
  | .abx addr => addr
  | .aby addr => addr
  | .izx b1 => zpPointer (b1 + s.x) s
  | .izy b1 => zpPointer b1 s

/-- The effective address (R111-R114, R117, R118). -/
def MemMode.ea (m : MemMode) (s : State) : Word :=
  match m with
  | .zp b1 => MemMode.base (.zp b1) s
  | .zpx b1 => MemMode.base (.zpx b1) s
  | .zpy b1 => MemMode.base (.zpy b1) s
  | .abs addr => MemMode.base (.abs addr) s
  | .abx addr => MemMode.base (.abx addr) s + zext16 s.x
  | .aby addr => MemMode.base (.aby addr) s + zext16 s.y
  | .izx b1 => MemMode.base (.izx b1) s
  | .izy b1 => MemMode.base (.izy b1) s + zext16 s.y

/-- `crossed`: the indexed address lies in another page than the base (R119). -/
def MemMode.crossed (m : MemMode) (s : State) : Bool := hiByte (m.base s) != hiByte (m.ea s)

/-- The cycles of R105: the base count, and one more on a page crossing where the instruction has the penalty. -/
def memCycles (cycles : Nat) (penalty : Bool) (m : MemMode) (s : State) : Nat :=
  cycles + (if penalty && m.crossed s then 1 else 0)

/-- The address of a relative operand: `(next + sext_16(b1)) mod 65536` (R115), in a state whose PC is `next`. -/
def relTarget (b1 : Byte) (s : State) : Word := s.pc + sext16 b1

/-- Where JMP indirect reads the high byte: inside the pointer's page (R116). -/
def indirectHigh (addr : Word) : Word := mk16 (hiByte addr) (loByte addr + 1)

/-- The effective address of JMP indirect: two bus reads (R116). -/
def indirectTarget (pc0 addr : Word) (s : State) : Res Word :=
  match busRead pc0 addr s with
  | .fault f => .fault f
  | .ok lo s1 =>
    match busRead pc0 (indirectHigh addr) s1 with
    | .fault f => .fault f
    | .ok hi s2 => .ok (mk16 hi lo) s2

/-- An instruction without operand bytes: implied or accumulator (R108, R109). -/
def execImplied (cycles : Nat) (op : State → State) (s : State) : Out := .next (tick cycles (op (s.atNext 1)))

/-- An instruction with an immediate operand (R110). -/
def execImmediate (cycles : Nat) (op : Byte → State → State) (b1 : Byte) (s : State) : Out :=
  .next (tick cycles (op b1 (s.atNext 2)))

/-- An instruction that makes one read at `ea` (R107, R125). -/
def execRead (cycles : Nat) (penalty : Bool) (op : Byte → State → State) (m : MemMode) (s : State) : Out :=
  match busRead s.pc (m.ea s) (s.atNext m.length) with
  | .fault f => .fault f
  | .ok v s1 => .next (tick (memCycles cycles penalty m s) (op v s1))

/-- An instruction that makes one write at `ea` and no read (R125). -/
def execStore (cycles : Nat) (val : State → Byte) (m : MemMode) (s : State) : Out :=
  match busWrite s.pc (m.ea s) (val s) (s.atNext m.length) with
  | .fault f => .fault f
  | .ok _ s1 => .next (tick cycles s1)

/-- An instruction that reads at `ea` once and then writes there once (R125): `result` of the byte read, `before` what happens to the
registers before the write, `after` what happens to them after it, from the byte read and the byte written. -/
def execModify (cycles : Nat) (result : Byte → State → Byte) (before : Byte → State → State) (after : Byte → Byte → State → State)
    (m : MemMode) (s : State) : Out :=
  match busRead s.pc (m.ea s) (s.atNext m.length) with
  | .fault f => .fault f
  | .ok v s1 =>
    match busWrite s.pc (m.ea s) (result v s1) (before v s1) with
    | .fault f => .fault f
    | .ok _ s2 => .next (tick cycles (after v (result v s1) s2))

/-- An unofficial NOP with an addressing mode: no access at `ea`, which only counts cycles (44_unofficial.md R200). -/
def execNoAccess (cycles : Nat) (penalty : Bool) (m : MemMode) (s : State) : Out :=
  .next (tick (memCycles cycles penalty m s) (s.atNext m.length))

/-- The extra cycles of a taken branch from `next` to `target` (40 R124, 42 R150). -/
def branchExtra (next target : Word) : Nat := 1 + (if hiByte next != hiByte target then 1 else 0)

/-- `Branch(cond)` of 42_control_flow.md R150; `taken` is the condition's value. -/
def execBranch (cycles : Nat) (taken : State → Bool) (b1 : Byte) (s : State) : Out :=
  let s1 := s.atNext 2
  if taken s1 then .next (tick (cycles + branchExtra s1.pc (relTarget b1 s1)) (s1.setPc (relTarget b1 s1)))
  else .next (tick cycles s1)

/-- The decode fault of a refused opcode (30_encoding.md R90, 40_execute_and_addressing.md R102): PC is still `pc0`, nothing ticks. -/
def execRefusedByte (opc : Byte) (s : State) : Out := .fault (.illegalOpcode s.pc opc s.regs)

end Sys2Proof.Machine
end

