-- ==== Sys2Proof/Machine/Control.lean ====
section
/-! DEFINITION. Control transfer (42_control_flow.md R150-R164). Inside every operation PC already is `next` (R104). -/

namespace Sys2Proof.Machine

/-- JSR's effect (R160): push `PC - 1`, high byte first, and jump. -/
def opJsr (addr : Word) (s : State) : State := (push16 (s.pc - 1) s).setPc addr

/-- RTS's effect (R161): pull PC and add one. -/
def opRts (s : State) : State := (afterPull16 s).setPc (pulled16 s + 1)

/-- BRK's effect (R162): the trap entry with `PC + 1` and the status with bits 4 and 5 set, then the vector or the halt. -/
def opBrk (s : State) : State :=
  let s1 := trapEntry (s.pc + 1) (breakStatus s.p) s
  match s.params.brkMode with
  | .vector => loadVector 0xFFFE s1
  | .halt => s1.setRunning false

/-- BCC `0x90`, rel, 2 / 3 / 4 cycles (R151). -/
def execBcc (b1 : Byte) (s : State) : Out := execBranch 2 (fun s => !getFlag .c s.p) b1 s

/-- BCS `0xB0`, rel, 2 / 3 / 4 cycles (R152). -/
def execBcs (b1 : Byte) (s : State) : Out := execBranch 2 (fun s => getFlag .c s.p) b1 s

/-- BEQ `0xF0`, rel, 2 / 3 / 4 cycles (R153). -/
def execBeq (b1 : Byte) (s : State) : Out := execBranch 2 (fun s => getFlag .z s.p) b1 s

/-- BMI `0x30`, rel, 2 / 3 / 4 cycles (R154). -/
def execBmi (b1 : Byte) (s : State) : Out := execBranch 2 (fun s => getFlag .n s.p) b1 s

/-- BNE `0xD0`, rel, 2 / 3 / 4 cycles (R155). -/
def execBne (b1 : Byte) (s : State) : Out := execBranch 2 (fun s => !getFlag .z s.p) b1 s

/-- BPL `0x10`, rel, 2 / 3 / 4 cycles (R156). -/
def execBpl (b1 : Byte) (s : State) : Out := execBranch 2 (fun s => !getFlag .n s.p) b1 s

/-- BVC `0x50`, rel, 2 / 3 / 4 cycles (R157). -/
def execBvc (b1 : Byte) (s : State) : Out := execBranch 2 (fun s => !getFlag .v s.p) b1 s

/-- BVS `0x70`, rel, 2 / 3 / 4 cycles (R158). -/
def execBvs (b1 : Byte) (s : State) : Out := execBranch 2 (fun s => getFlag .v s.p) b1 s

/-- JMP `0x4C`, abs, 3 cycles (R159). -/
def execJmpAbs (addr : Word) (s : State) : Out := .next (tick 3 ((s.atNext 3).setPc addr))

/-- JMP `0x6C`, ind, 5 cycles (R159). -/
def execJmpInd (addr : Word) (s : State) : Out :=
  match indirectTarget s.pc addr (s.atNext 3) with
  | .fault f => .fault f
  | .ok target s1 => .next (tick 5 (s1.setPc target))

/-- JSR `0x20`, abs, 6 cycles (R160). -/
def execJsr (addr : Word) (s : State) : Out := .next (tick 6 (opJsr addr (s.atNext 3)))

/-- RTS `0x60`, implied, 6 cycles (R161). -/
def execRts (s : State) : Out := execImplied 6 opRts s

/-- BRK `0x00`, implied, 7 cycles (R162). -/
def execBrk (s : State) : Out := execImplied 7 opBrk s

/-- RTI `0x40`, implied, 6 cycles (R163). -/
def execRti (s : State) : Out := execImplied 6 trapReturn s

end Sys2Proof.Machine
end

