-- ==== Sys2Proof/Machine/Refused.lean ====
section
/-! DEFINITION. The 25 refused opcode bytes (30_encoding.md R90): each raises IllegalOpcode, the fault the spec gives it. -/

namespace Sys2Proof.Machine

/-- The refused byte `0x02`, conventionally JAM (R90). -/
def execIllegal02 (s : State) : Out := execRefusedByte 0x02 s

/-- The refused byte `0x0B`, conventionally ANC (R90). -/
def execIllegal0B (s : State) : Out := execRefusedByte 0x0B s

/-- The refused byte `0x12`, conventionally JAM (R90). -/
def execIllegal12 (s : State) : Out := execRefusedByte 0x12 s

/-- The refused byte `0x22`, conventionally JAM (R90). -/
def execIllegal22 (s : State) : Out := execRefusedByte 0x22 s

/-- The refused byte `0x2B`, conventionally ANC (R90). -/
def execIllegal2B (s : State) : Out := execRefusedByte 0x2B s

/-- The refused byte `0x32`, conventionally JAM (R90). -/
def execIllegal32 (s : State) : Out := execRefusedByte 0x32 s

/-- The refused byte `0x42`, conventionally JAM (R90). -/
def execIllegal42 (s : State) : Out := execRefusedByte 0x42 s

/-- The refused byte `0x4B`, conventionally ALR (R90). -/
def execIllegal4B (s : State) : Out := execRefusedByte 0x4B s

/-- The refused byte `0x52`, conventionally JAM (R90). -/
def execIllegal52 (s : State) : Out := execRefusedByte 0x52 s

/-- The refused byte `0x62`, conventionally JAM (R90). -/
def execIllegal62 (s : State) : Out := execRefusedByte 0x62 s

/-- The refused byte `0x6B`, conventionally ARR (R90). -/
def execIllegal6B (s : State) : Out := execRefusedByte 0x6B s

/-- The refused byte `0x72`, conventionally JAM (R90). -/
def execIllegal72 (s : State) : Out := execRefusedByte 0x72 s

/-- The refused byte `0x8B`, conventionally XAA (R90). -/
def execIllegal8B (s : State) : Out := execRefusedByte 0x8B s

/-- The refused byte `0x92`, conventionally JAM (R90). -/
def execIllegal92 (s : State) : Out := execRefusedByte 0x92 s

/-- The refused byte `0x93`, conventionally AHX (R90). -/
def execIllegal93 (s : State) : Out := execRefusedByte 0x93 s

/-- The refused byte `0x9B`, conventionally TAS (R90). -/
def execIllegal9B (s : State) : Out := execRefusedByte 0x9B s

/-- The refused byte `0x9C`, conventionally SHY (R90). -/
def execIllegal9C (s : State) : Out := execRefusedByte 0x9C s

/-- The refused byte `0x9E`, conventionally SHX (R90). -/
def execIllegal9E (s : State) : Out := execRefusedByte 0x9E s

/-- The refused byte `0x9F`, conventionally AHX (R90). -/
def execIllegal9F (s : State) : Out := execRefusedByte 0x9F s

/-- The refused byte `0xAB`, conventionally LXA (R90). -/
def execIllegalAB (s : State) : Out := execRefusedByte 0xAB s

/-- The refused byte `0xB2`, conventionally JAM (R90). -/
def execIllegalB2 (s : State) : Out := execRefusedByte 0xB2 s

/-- The refused byte `0xBB`, conventionally LAS (R90). -/
def execIllegalBB (s : State) : Out := execRefusedByte 0xBB s

/-- The refused byte `0xCB`, conventionally AXS (R90). -/
def execIllegalCB (s : State) : Out := execRefusedByte 0xCB s

/-- The refused byte `0xD2`, conventionally JAM (R90). -/
def execIllegalD2 (s : State) : Out := execRefusedByte 0xD2 s

/-- The refused byte `0xF2`, conventionally JAM (R90). -/
def execIllegalF2 (s : State) : Out := execRefusedByte 0xF2 s

end Sys2Proof.Machine
end

