-- ==== Sys2Proof/Machine/Alu.lean ====
section
/-! DEFINITION. The ALU instructions (41_alu.md R130-R149): one register operation per mnemonic, then one meaning per opcode. -/

namespace Sys2Proof.Machine

/-- ADC's effect (R130). -/
def opAdc (op : Byte) (s : State) : State :=
  (s.setP (addFlags s.a op (getFlag .c s.p) s.p)).setA (addResult s.a op (getFlag .c s.p))

/-- SBC's effect: the addition of `~op` (R131). -/
def opSbc (op : Byte) (s : State) : State := opAdc (~~~op) s

/-- `A <- v; update((Z, N), v)`. -/
def putA (v : Byte) (s : State) : State := (s.setA v).setP (updateZN v s.p)

/-- `X <- v; update((Z, N), v)`. -/
def putX (v : Byte) (s : State) : State := (s.setX v).setP (updateZN v s.p)

/-- `Y <- v; update((Z, N), v)`. -/
def putY (v : Byte) (s : State) : State := (s.setY v).setP (updateZN v s.p)

/-- AND's effect (R132). -/
def opAnd (op : Byte) (s : State) : State := putA (s.a &&& op) s

/-- ORA's effect (R133). -/
def opOra (op : Byte) (s : State) : State := putA (s.a ||| op) s

/-- EOR's effect (R134). -/
def opEor (op : Byte) (s : State) : State := putA (s.a ^^^ op) s

/-- BIT's effect (R135). -/
def opBit (op : Byte) (s : State) : State := s.setP (bitTestFlags s.a op s.p)

/-- CMP's effect (R136). -/
def opCmp (op : Byte) (s : State) : State := s.setP (compareFlags s.a op s.p)

/-- CPX's effect (R137). -/
def opCpx (op : Byte) (s : State) : State := s.setP (compareFlags s.x op s.p)

/-- CPY's effect (R138). -/
def opCpy (op : Byte) (s : State) : State := s.setP (compareFlags s.y op s.p)

/-- Nothing happens to the registers before the write. -/
def noneBefore (_ : Byte) (s : State) : State := s

/-- `update((Z, N), r)` after the write of `r`. -/
def updateAfter (_ r : Byte) (s : State) : State := s.setP (updateZN r s.p)

/-- INC's written byte (R139). -/
def incByte (v : Byte) (_ : State) : Byte := v + 1

/-- DEC's written byte (R140). -/
def decByte (v : Byte) (_ : State) : Byte := v - 1

/-- ASL's written byte (R145). -/
def aslByte (v : Byte) (_ : State) : Byte := aslResult v

/-- LSR's written byte (R146). -/
def lsrByte (v : Byte) (_ : State) : Byte := lsrResult v

/-- ROL's written byte, from the carry before the instruction (R147). -/
def rolByte (v : Byte) (s : State) : Byte := rolResult v (getFlag .c s.p)

/-- ROR's written byte, from the carry before the instruction (R148). -/
def rorByte (v : Byte) (s : State) : Byte := rorResult v (getFlag .c s.p)

/-- The flags of a left shift or rotate of `v` to `r`, after the write: C is `v[7]` (R145, R147). -/
def leftFlags (v r : Byte) (s : State) : State := s.setP (shiftFlags (bitAt 7 v) r s.p)

/-- The flags of a right shift or rotate of `v` to `r`, after the write: C is `v[0]` (R146, R148). -/
def rightFlags (v r : Byte) (s : State) : State := s.setP (shiftFlags (bitAt 0 v) r s.p)

/-- The accumulator form of a left shift or rotate (R145, R147). -/
def leftA (result : Byte → State → Byte) (s : State) : State := leftFlags s.a (result s.a s) (s.setA (result s.a s))

/-- The accumulator form of a right shift or rotate (R146, R148). -/
def rightA (result : Byte → State → Byte) (s : State) : State := rightFlags s.a (result s.a s) (s.setA (result s.a s))

/-- ADC `0x61`, izx, 6 cycles (R130). -/
def execAdcIzx (b1 : Byte) (s : State) : Out := execRead 6 false opAdc (.izx b1) s

/-- ADC `0x65`, zp, 3 cycles (R130). -/
def execAdcZp (b1 : Byte) (s : State) : Out := execRead 3 false opAdc (.zp b1) s

/-- ADC `0x69`, imm, 2 cycles (R130). -/
def execAdcImm (b1 : Byte) (s : State) : Out := execImmediate 2 opAdc b1 s

/-- ADC `0x6D`, abs, 4 cycles (R130). -/
def execAdcAbs (addr : Word) (s : State) : Out := execRead 4 false opAdc (.abs addr) s

/-- ADC `0x71`, izy, 5+ cycles (R130). -/
def execAdcIzy (b1 : Byte) (s : State) : Out := execRead 5 true opAdc (.izy b1) s

/-- ADC `0x75`, zpx, 4 cycles (R130). -/
def execAdcZpx (b1 : Byte) (s : State) : Out := execRead 4 false opAdc (.zpx b1) s

/-- ADC `0x79`, aby, 4+ cycles (R130). -/
def execAdcAby (addr : Word) (s : State) : Out := execRead 4 true opAdc (.aby addr) s

/-- ADC `0x7D`, abx, 4+ cycles (R130). -/
def execAdcAbx (addr : Word) (s : State) : Out := execRead 4 true opAdc (.abx addr) s

/-- SBC `0xE1`, izx, 6 cycles (R131). -/
def execSbcIzx (b1 : Byte) (s : State) : Out := execRead 6 false opSbc (.izx b1) s

/-- SBC `0xE5`, zp, 3 cycles (R131). -/
def execSbcZp (b1 : Byte) (s : State) : Out := execRead 3 false opSbc (.zp b1) s

/-- SBC `0xE9`, imm, 2 cycles (R131). -/
def execSbcImm (b1 : Byte) (s : State) : Out := execImmediate 2 opSbc b1 s

/-- SBC `0xED`, abs, 4 cycles (R131). -/
def execSbcAbs (addr : Word) (s : State) : Out := execRead 4 false opSbc (.abs addr) s

/-- SBC `0xF1`, izy, 5+ cycles (R131). -/
def execSbcIzy (b1 : Byte) (s : State) : Out := execRead 5 true opSbc (.izy b1) s

/-- SBC `0xF5`, zpx, 4 cycles (R131). -/
def execSbcZpx (b1 : Byte) (s : State) : Out := execRead 4 false opSbc (.zpx b1) s

/-- SBC `0xF9`, aby, 4+ cycles (R131). -/
def execSbcAby (addr : Word) (s : State) : Out := execRead 4 true opSbc (.aby addr) s

/-- SBC `0xFD`, abx, 4+ cycles (R131). -/
def execSbcAbx (addr : Word) (s : State) : Out := execRead 4 true opSbc (.abx addr) s

/-- AND `0x21`, izx, 6 cycles (R132). -/
def execAndIzx (b1 : Byte) (s : State) : Out := execRead 6 false opAnd (.izx b1) s

/-- AND `0x25`, zp, 3 cycles (R132). -/
def execAndZp (b1 : Byte) (s : State) : Out := execRead 3 false opAnd (.zp b1) s

/-- AND `0x29`, imm, 2 cycles (R132). -/
def execAndImm (b1 : Byte) (s : State) : Out := execImmediate 2 opAnd b1 s

/-- AND `0x2D`, abs, 4 cycles (R132). -/
def execAndAbs (addr : Word) (s : State) : Out := execRead 4 false opAnd (.abs addr) s

/-- AND `0x31`, izy, 5+ cycles (R132). -/
def execAndIzy (b1 : Byte) (s : State) : Out := execRead 5 true opAnd (.izy b1) s

/-- AND `0x35`, zpx, 4 cycles (R132). -/
def execAndZpx (b1 : Byte) (s : State) : Out := execRead 4 false opAnd (.zpx b1) s

/-- AND `0x39`, aby, 4+ cycles (R132). -/
def execAndAby (addr : Word) (s : State) : Out := execRead 4 true opAnd (.aby addr) s

/-- AND `0x3D`, abx, 4+ cycles (R132). -/
def execAndAbx (addr : Word) (s : State) : Out := execRead 4 true opAnd (.abx addr) s

/-- ORA `0x01`, izx, 6 cycles (R133). -/
def execOraIzx (b1 : Byte) (s : State) : Out := execRead 6 false opOra (.izx b1) s

/-- ORA `0x05`, zp, 3 cycles (R133). -/
def execOraZp (b1 : Byte) (s : State) : Out := execRead 3 false opOra (.zp b1) s

/-- ORA `0x09`, imm, 2 cycles (R133). -/
def execOraImm (b1 : Byte) (s : State) : Out := execImmediate 2 opOra b1 s

/-- ORA `0x0D`, abs, 4 cycles (R133). -/
def execOraAbs (addr : Word) (s : State) : Out := execRead 4 false opOra (.abs addr) s

/-- ORA `0x11`, izy, 5+ cycles (R133). -/
def execOraIzy (b1 : Byte) (s : State) : Out := execRead 5 true opOra (.izy b1) s

/-- ORA `0x15`, zpx, 4 cycles (R133). -/
def execOraZpx (b1 : Byte) (s : State) : Out := execRead 4 false opOra (.zpx b1) s

/-- ORA `0x19`, aby, 4+ cycles (R133). -/
def execOraAby (addr : Word) (s : State) : Out := execRead 4 true opOra (.aby addr) s

/-- ORA `0x1D`, abx, 4+ cycles (R133). -/
def execOraAbx (addr : Word) (s : State) : Out := execRead 4 true opOra (.abx addr) s

/-- EOR `0x41`, izx, 6 cycles (R134). -/
def execEorIzx (b1 : Byte) (s : State) : Out := execRead 6 false opEor (.izx b1) s

/-- EOR `0x45`, zp, 3 cycles (R134). -/
def execEorZp (b1 : Byte) (s : State) : Out := execRead 3 false opEor (.zp b1) s

/-- EOR `0x49`, imm, 2 cycles (R134). -/
def execEorImm (b1 : Byte) (s : State) : Out := execImmediate 2 opEor b1 s

/-- EOR `0x4D`, abs, 4 cycles (R134). -/
def execEorAbs (addr : Word) (s : State) : Out := execRead 4 false opEor (.abs addr) s

/-- EOR `0x51`, izy, 5+ cycles (R134). -/
def execEorIzy (b1 : Byte) (s : State) : Out := execRead 5 true opEor (.izy b1) s

/-- EOR `0x55`, zpx, 4 cycles (R134). -/
def execEorZpx (b1 : Byte) (s : State) : Out := execRead 4 false opEor (.zpx b1) s

/-- EOR `0x59`, aby, 4+ cycles (R134). -/
def execEorAby (addr : Word) (s : State) : Out := execRead 4 true opEor (.aby addr) s

/-- EOR `0x5D`, abx, 4+ cycles (R134). -/
def execEorAbx (addr : Word) (s : State) : Out := execRead 4 true opEor (.abx addr) s

/-- BIT `0x24`, zp, 3 cycles (R135). -/
def execBitZp (b1 : Byte) (s : State) : Out := execRead 3 false opBit (.zp b1) s

/-- BIT `0x2C`, abs, 4 cycles (R135). -/
def execBitAbs (addr : Word) (s : State) : Out := execRead 4 false opBit (.abs addr) s

/-- CMP `0xC1`, izx, 6 cycles (R136). -/
def execCmpIzx (b1 : Byte) (s : State) : Out := execRead 6 false opCmp (.izx b1) s

/-- CMP `0xC5`, zp, 3 cycles (R136). -/
def execCmpZp (b1 : Byte) (s : State) : Out := execRead 3 false opCmp (.zp b1) s

/-- CMP `0xC9`, imm, 2 cycles (R136). -/
def execCmpImm (b1 : Byte) (s : State) : Out := execImmediate 2 opCmp b1 s

/-- CMP `0xCD`, abs, 4 cycles (R136). -/
def execCmpAbs (addr : Word) (s : State) : Out := execRead 4 false opCmp (.abs addr) s

/-- CMP `0xD1`, izy, 5+ cycles (R136). -/
def execCmpIzy (b1 : Byte) (s : State) : Out := execRead 5 true opCmp (.izy b1) s

/-- CMP `0xD5`, zpx, 4 cycles (R136). -/
def execCmpZpx (b1 : Byte) (s : State) : Out := execRead 4 false opCmp (.zpx b1) s

/-- CMP `0xD9`, aby, 4+ cycles (R136). -/
def execCmpAby (addr : Word) (s : State) : Out := execRead 4 true opCmp (.aby addr) s

/-- CMP `0xDD`, abx, 4+ cycles (R136). -/
def execCmpAbx (addr : Word) (s : State) : Out := execRead 4 true opCmp (.abx addr) s

/-- CPX `0xE0`, imm, 2 cycles (R137). -/
def execCpxImm (b1 : Byte) (s : State) : Out := execImmediate 2 opCpx b1 s

/-- CPX `0xE4`, zp, 3 cycles (R137). -/
def execCpxZp (b1 : Byte) (s : State) : Out := execRead 3 false opCpx (.zp b1) s

/-- CPX `0xEC`, abs, 4 cycles (R137). -/
def execCpxAbs (addr : Word) (s : State) : Out := execRead 4 false opCpx (.abs addr) s

/-- CPY `0xC0`, imm, 2 cycles (R138). -/
def execCpyImm (b1 : Byte) (s : State) : Out := execImmediate 2 opCpy b1 s

/-- CPY `0xC4`, zp, 3 cycles (R138). -/
def execCpyZp (b1 : Byte) (s : State) : Out := execRead 3 false opCpy (.zp b1) s

/-- CPY `0xCC`, abs, 4 cycles (R138). -/
def execCpyAbs (addr : Word) (s : State) : Out := execRead 4 false opCpy (.abs addr) s

/-- INC `0xE6`, zp, 5 cycles (R139). -/
def execIncZp (b1 : Byte) (s : State) : Out := execModify 5 incByte noneBefore updateAfter (.zp b1) s

/-- INC `0xEE`, abs, 6 cycles (R139). -/
def execIncAbs (addr : Word) (s : State) : Out := execModify 6 incByte noneBefore updateAfter (.abs addr) s

/-- INC `0xF6`, zpx, 6 cycles (R139). -/
def execIncZpx (b1 : Byte) (s : State) : Out := execModify 6 incByte noneBefore updateAfter (.zpx b1) s

/-- INC `0xFE`, abx, 7 cycles (R139). -/
def execIncAbx (addr : Word) (s : State) : Out := execModify 7 incByte noneBefore updateAfter (.abx addr) s

/-- DEC `0xC6`, zp, 5 cycles (R140). -/
def execDecZp (b1 : Byte) (s : State) : Out := execModify 5 decByte noneBefore updateAfter (.zp b1) s

/-- DEC `0xCE`, abs, 6 cycles (R140). -/
def execDecAbs (addr : Word) (s : State) : Out := execModify 6 decByte noneBefore updateAfter (.abs addr) s

/-- DEC `0xD6`, zpx, 6 cycles (R140). -/
def execDecZpx (b1 : Byte) (s : State) : Out := execModify 6 decByte noneBefore updateAfter (.zpx b1) s

/-- DEC `0xDE`, abx, 7 cycles (R140). -/
def execDecAbx (addr : Word) (s : State) : Out := execModify 7 decByte noneBefore updateAfter (.abx addr) s

/-- INX `0xE8`, implied, 2 cycles (R141). -/
def execInx (s : State) : Out := execImplied 2 (fun s => putX (s.x + 1) s) s

/-- INY `0xC8`, implied, 2 cycles (R142). -/
def execIny (s : State) : Out := execImplied 2 (fun s => putY (s.y + 1) s) s

/-- DEX `0xCA`, implied, 2 cycles (R143). -/
def execDex (s : State) : Out := execImplied 2 (fun s => putX (s.x - 1) s) s

/-- DEY `0x88`, implied, 2 cycles (R144). -/
def execDey (s : State) : Out := execImplied 2 (fun s => putY (s.y - 1) s) s

/-- ASL `0x06`, zp, 5 cycles (R145). -/
def execAslZp (b1 : Byte) (s : State) : Out := execModify 5 aslByte noneBefore leftFlags (.zp b1) s

/-- ASL `0x0A`, accumulator, 2 cycles (R145). -/
def execAslAcc (s : State) : Out := execImplied 2 (leftA aslByte) s

/-- ASL `0x0E`, abs, 6 cycles (R145). -/
def execAslAbs (addr : Word) (s : State) : Out := execModify 6 aslByte noneBefore leftFlags (.abs addr) s

/-- ASL `0x16`, zpx, 6 cycles (R145). -/
def execAslZpx (b1 : Byte) (s : State) : Out := execModify 6 aslByte noneBefore leftFlags (.zpx b1) s

/-- ASL `0x1E`, abx, 7 cycles (R145). -/
def execAslAbx (addr : Word) (s : State) : Out := execModify 7 aslByte noneBefore leftFlags (.abx addr) s

/-- LSR `0x46`, zp, 5 cycles (R146). -/
def execLsrZp (b1 : Byte) (s : State) : Out := execModify 5 lsrByte noneBefore rightFlags (.zp b1) s

/-- LSR `0x4A`, accumulator, 2 cycles (R146). -/
def execLsrAcc (s : State) : Out := execImplied 2 (rightA lsrByte) s

/-- LSR `0x4E`, abs, 6 cycles (R146). -/
def execLsrAbs (addr : Word) (s : State) : Out := execModify 6 lsrByte noneBefore rightFlags (.abs addr) s

/-- LSR `0x56`, zpx, 6 cycles (R146). -/
def execLsrZpx (b1 : Byte) (s : State) : Out := execModify 6 lsrByte noneBefore rightFlags (.zpx b1) s

/-- LSR `0x5E`, abx, 7 cycles (R146). -/
def execLsrAbx (addr : Word) (s : State) : Out := execModify 7 lsrByte noneBefore rightFlags (.abx addr) s

/-- ROL `0x26`, zp, 5 cycles (R147). -/
def execRolZp (b1 : Byte) (s : State) : Out := execModify 5 rolByte noneBefore leftFlags (.zp b1) s

/-- ROL `0x2A`, accumulator, 2 cycles (R147). -/
def execRolAcc (s : State) : Out := execImplied 2 (leftA rolByte) s

/-- ROL `0x2E`, abs, 6 cycles (R147). -/
def execRolAbs (addr : Word) (s : State) : Out := execModify 6 rolByte noneBefore leftFlags (.abs addr) s

/-- ROL `0x36`, zpx, 6 cycles (R147). -/
def execRolZpx (b1 : Byte) (s : State) : Out := execModify 6 rolByte noneBefore leftFlags (.zpx b1) s

/-- ROL `0x3E`, abx, 7 cycles (R147). -/
def execRolAbx (addr : Word) (s : State) : Out := execModify 7 rolByte noneBefore leftFlags (.abx addr) s

/-- ROR `0x66`, zp, 5 cycles (R148). -/
def execRorZp (b1 : Byte) (s : State) : Out := execModify 5 rorByte noneBefore rightFlags (.zp b1) s

/-- ROR `0x6A`, accumulator, 2 cycles (R148). -/
def execRorAcc (s : State) : Out := execImplied 2 (rightA rorByte) s

/-- ROR `0x6E`, abs, 6 cycles (R148). -/
def execRorAbs (addr : Word) (s : State) : Out := execModify 6 rorByte noneBefore rightFlags (.abs addr) s

/-- ROR `0x76`, zpx, 6 cycles (R148). -/
def execRorZpx (b1 : Byte) (s : State) : Out := execModify 6 rorByte noneBefore rightFlags (.zpx b1) s

/-- ROR `0x7E`, abx, 7 cycles (R148). -/
def execRorAbx (addr : Word) (s : State) : Out := execModify 7 rorByte noneBefore rightFlags (.abx addr) s

end Sys2Proof.Machine
end

