-- ==== Sys2Proof/Machine/Data.lean ====
section
/-! DEFINITION. Loads, stores, transfers, stack and flag instructions and the official NOP (43_load_store_stack_flags.md R170-R193). -/

namespace Sys2Proof.Machine

/-- PHP's effect (R183). -/
def opPhp (s : State) : State := push (breakStatus s.p) s

/-- PLA's effect (R184). -/
def opPla (s : State) : State := putA (pulled s) (afterPull s)

/-- PLP's effect (R185). -/
def opPlp (s : State) : State := (afterPull s).setP (mergeStatus (pulled s) s.p)

/-- A flag instruction's effect: one field of P (R186-R192). -/
def opFlag (f : Flag) (b : Bool) (s : State) : State := s.setP (setFlag f b s.p)

/-- NOP's effect (R193). -/
def opNop (s : State) : State := s

/-- LDA `0xA1`, izx, 6 cycles (R170). -/
def execLdaIzx (b1 : Byte) (s : State) : Out := execRead 6 false putA (.izx b1) s

/-- LDA `0xA5`, zp, 3 cycles (R170). -/
def execLdaZp (b1 : Byte) (s : State) : Out := execRead 3 false putA (.zp b1) s

/-- LDA `0xA9`, imm, 2 cycles (R170). -/
def execLdaImm (b1 : Byte) (s : State) : Out := execImmediate 2 putA b1 s

/-- LDA `0xAD`, abs, 4 cycles (R170). -/
def execLdaAbs (addr : Word) (s : State) : Out := execRead 4 false putA (.abs addr) s

/-- LDA `0xB1`, izy, 5+ cycles (R170). -/
def execLdaIzy (b1 : Byte) (s : State) : Out := execRead 5 true putA (.izy b1) s

/-- LDA `0xB5`, zpx, 4 cycles (R170). -/
def execLdaZpx (b1 : Byte) (s : State) : Out := execRead 4 false putA (.zpx b1) s

/-- LDA `0xB9`, aby, 4+ cycles (R170). -/
def execLdaAby (addr : Word) (s : State) : Out := execRead 4 true putA (.aby addr) s

/-- LDA `0xBD`, abx, 4+ cycles (R170). -/
def execLdaAbx (addr : Word) (s : State) : Out := execRead 4 true putA (.abx addr) s

/-- LDX `0xA2`, imm, 2 cycles (R171). -/
def execLdxImm (b1 : Byte) (s : State) : Out := execImmediate 2 putX b1 s

/-- LDX `0xA6`, zp, 3 cycles (R171). -/
def execLdxZp (b1 : Byte) (s : State) : Out := execRead 3 false putX (.zp b1) s

/-- LDX `0xAE`, abs, 4 cycles (R171). -/
def execLdxAbs (addr : Word) (s : State) : Out := execRead 4 false putX (.abs addr) s

/-- LDX `0xB6`, zpy, 4 cycles (R171). -/
def execLdxZpy (b1 : Byte) (s : State) : Out := execRead 4 false putX (.zpy b1) s

/-- LDX `0xBE`, aby, 4+ cycles (R171). -/
def execLdxAby (addr : Word) (s : State) : Out := execRead 4 true putX (.aby addr) s

/-- LDY `0xA0`, imm, 2 cycles (R172). -/
def execLdyImm (b1 : Byte) (s : State) : Out := execImmediate 2 putY b1 s

/-- LDY `0xA4`, zp, 3 cycles (R172). -/
def execLdyZp (b1 : Byte) (s : State) : Out := execRead 3 false putY (.zp b1) s

/-- LDY `0xAC`, abs, 4 cycles (R172). -/
def execLdyAbs (addr : Word) (s : State) : Out := execRead 4 false putY (.abs addr) s

/-- LDY `0xB4`, zpx, 4 cycles (R172). -/
def execLdyZpx (b1 : Byte) (s : State) : Out := execRead 4 false putY (.zpx b1) s

/-- LDY `0xBC`, abx, 4+ cycles (R172). -/
def execLdyAbx (addr : Word) (s : State) : Out := execRead 4 true putY (.abx addr) s

/-- STA `0x81`, izx, 6 cycles (R173). -/
def execStaIzx (b1 : Byte) (s : State) : Out := execStore 6 State.a (.izx b1) s

/-- STA `0x85`, zp, 3 cycles (R173). -/
def execStaZp (b1 : Byte) (s : State) : Out := execStore 3 State.a (.zp b1) s

/-- STA `0x8D`, abs, 4 cycles (R173). -/
def execStaAbs (addr : Word) (s : State) : Out := execStore 4 State.a (.abs addr) s

/-- STA `0x91`, izy, 6 cycles (R173). -/
def execStaIzy (b1 : Byte) (s : State) : Out := execStore 6 State.a (.izy b1) s

/-- STA `0x95`, zpx, 4 cycles (R173). -/
def execStaZpx (b1 : Byte) (s : State) : Out := execStore 4 State.a (.zpx b1) s

/-- STA `0x99`, aby, 5 cycles (R173). -/
def execStaAby (addr : Word) (s : State) : Out := execStore 5 State.a (.aby addr) s

/-- STA `0x9D`, abx, 5 cycles (R173). -/
def execStaAbx (addr : Word) (s : State) : Out := execStore 5 State.a (.abx addr) s

/-- STX `0x86`, zp, 3 cycles (R174). -/
def execStxZp (b1 : Byte) (s : State) : Out := execStore 3 State.x (.zp b1) s

/-- STX `0x8E`, abs, 4 cycles (R174). -/
def execStxAbs (addr : Word) (s : State) : Out := execStore 4 State.x (.abs addr) s

/-- STX `0x96`, zpy, 4 cycles (R174). -/
def execStxZpy (b1 : Byte) (s : State) : Out := execStore 4 State.x (.zpy b1) s

/-- STY `0x84`, zp, 3 cycles (R175). -/
def execStyZp (b1 : Byte) (s : State) : Out := execStore 3 State.y (.zp b1) s

/-- STY `0x8C`, abs, 4 cycles (R175). -/
def execStyAbs (addr : Word) (s : State) : Out := execStore 4 State.y (.abs addr) s

/-- STY `0x94`, zpx, 4 cycles (R175). -/
def execStyZpx (b1 : Byte) (s : State) : Out := execStore 4 State.y (.zpx b1) s

/-- TAX `0xAA`, implied, 2 cycles (R176). -/
def execTax (s : State) : Out := execImplied 2 (fun s => putX s.a s) s

/-- TAY `0xA8`, implied, 2 cycles (R177). -/
def execTay (s : State) : Out := execImplied 2 (fun s => putY s.a s) s

/-- TXA `0x8A`, implied, 2 cycles (R178). -/
def execTxa (s : State) : Out := execImplied 2 (fun s => putA s.x s) s

/-- TYA `0x98`, implied, 2 cycles (R179). -/
def execTya (s : State) : Out := execImplied 2 (fun s => putA s.y s) s

/-- TSX `0xBA`, implied, 2 cycles (R180). -/
def execTsx (s : State) : Out := execImplied 2 (fun s => putX s.sp s) s

/-- TXS `0x9A`, implied, 2 cycles (R181). -/
def execTxs (s : State) : Out := execImplied 2 (fun s => s.setSp s.x) s

/-- PHA `0x48`, implied, 3 cycles (R182). -/
def execPha (s : State) : Out := execImplied 3 (fun s => push s.a s) s

/-- PHP `0x08`, implied, 3 cycles (R183). -/
def execPhp (s : State) : Out := execImplied 3 opPhp s

/-- PLA `0x68`, implied, 4 cycles (R184). -/
def execPla (s : State) : Out := execImplied 4 opPla s

/-- PLP `0x28`, implied, 4 cycles (R185). -/
def execPlp (s : State) : Out := execImplied 4 opPlp s

/-- CLC `0x18`, implied, 2 cycles (R186). -/
def execClc (s : State) : Out := execImplied 2 (opFlag .c false) s

/-- SEC `0x38`, implied, 2 cycles (R187). -/
def execSec (s : State) : Out := execImplied 2 (opFlag .c true) s

/-- CLI `0x58`, implied, 2 cycles (R188). -/
def execCli (s : State) : Out := execImplied 2 (opFlag .i false) s

/-- SEI `0x78`, implied, 2 cycles (R189). -/
def execSei (s : State) : Out := execImplied 2 (opFlag .i true) s

/-- CLD `0xD8`, implied, 2 cycles (R190). -/
def execCld (s : State) : Out := execImplied 2 (opFlag .d false) s

/-- SED `0xF8`, implied, 2 cycles (R191). -/
def execSed (s : State) : Out := execImplied 2 (opFlag .d true) s

/-- CLV `0xB8`, implied, 2 cycles (R192). -/
def execClv (s : State) : Out := execImplied 2 (opFlag .v false) s

/-- NOP `0xEA`, implied, 2 cycles (R193). -/
def execNop (s : State) : Out := execImplied 2 opNop s

end Sys2Proof.Machine
end

