-- ==== Sys2Proof/Machine/Unofficial.lean ====
section
/-! DEFINITION. The unofficial opcodes (44_unofficial.md R200-R209). In SLO, RLA, SRE and RRA the shift writes C before the memory
write, as their rules order it. -/

namespace Sys2Proof.Machine

/-- LAX's effect (R201). -/
def opLax (op : Byte) (s : State) : State := ((s.setA op).setX op).setP (updateZN op s.p)

/-- SAX's stored byte (R202). -/
def saxByte (s : State) : Byte := s.a &&& s.x

/-- DCP's compare with the byte written (R203). -/
def dcpAfter (_ m : Byte) (s : State) : State := opCmp m s

/-- ISB's subtraction of the byte written (R204). -/
def isbAfter (_ m : Byte) (s : State) : State := opSbc m s

/-- `P.C <- t[7]` before the write (R205, R206). -/
def carryFromHigh (t : Byte) (s : State) : State := s.setP (setFlag .c (bitAt 7 t) s.p)

/-- `P.C <- t[0]` before the write (R207, R208). -/
def carryFromLow (t : Byte) (s : State) : State := s.setP (setFlag .c (bitAt 0 t) s.p)

/-- SLO's OR with the byte written (R205). -/
def sloAfter (_ m : Byte) (s : State) : State := opOra m s

/-- RLA's AND with the byte written (R206). -/
def rlaAfter (_ m : Byte) (s : State) : State := opAnd m s

/-- SRE's EOR with the byte written (R207). -/
def sreAfter (_ m : Byte) (s : State) : State := opEor m s

/-- RRA's ADC of the byte written, carry-in the new C (R208). -/
def rraAfter (_ m : Byte) (s : State) : State := opAdc m s

/-- NOP `0x04`, zp, 3 cycles (R200). -/
def execNop04 (b1 : Byte) (s : State) : Out := execNoAccess 3 false (.zp b1) s

/-- NOP `0x0C`, abs, 4 cycles (R200). -/
def execNop0C (addr : Word) (s : State) : Out := execNoAccess 4 false (.abs addr) s

/-- NOP `0x14`, zpx, 4 cycles (R200). -/
def execNop14 (b1 : Byte) (s : State) : Out := execNoAccess 4 false (.zpx b1) s

/-- NOP `0x1A`, implied, 2 cycles (R200). -/
def execNop1A (s : State) : Out := execImplied 2 opNop s

/-- NOP `0x1C`, abx, 4+ cycles (R200). -/
def execNop1C (addr : Word) (s : State) : Out := execNoAccess 4 true (.abx addr) s

/-- NOP `0x34`, zpx, 4 cycles (R200). -/
def execNop34 (b1 : Byte) (s : State) : Out := execNoAccess 4 false (.zpx b1) s

/-- NOP `0x3A`, implied, 2 cycles (R200). -/
def execNop3A (s : State) : Out := execImplied 2 opNop s

/-- NOP `0x3C`, abx, 4+ cycles (R200). -/
def execNop3C (addr : Word) (s : State) : Out := execNoAccess 4 true (.abx addr) s

/-- NOP `0x44`, zp, 3 cycles (R200). -/
def execNop44 (b1 : Byte) (s : State) : Out := execNoAccess 3 false (.zp b1) s

/-- NOP `0x54`, zpx, 4 cycles (R200). -/
def execNop54 (b1 : Byte) (s : State) : Out := execNoAccess 4 false (.zpx b1) s

/-- NOP `0x5A`, implied, 2 cycles (R200). -/
def execNop5A (s : State) : Out := execImplied 2 opNop s

/-- NOP `0x5C`, abx, 4+ cycles (R200). -/
def execNop5C (addr : Word) (s : State) : Out := execNoAccess 4 true (.abx addr) s

/-- NOP `0x64`, zp, 3 cycles (R200). -/
def execNop64 (b1 : Byte) (s : State) : Out := execNoAccess 3 false (.zp b1) s

/-- NOP `0x74`, zpx, 4 cycles (R200). -/
def execNop74 (b1 : Byte) (s : State) : Out := execNoAccess 4 false (.zpx b1) s

/-- NOP `0x7A`, implied, 2 cycles (R200). -/
def execNop7A (s : State) : Out := execImplied 2 opNop s

/-- NOP `0x7C`, abx, 4+ cycles (R200). -/
def execNop7C (addr : Word) (s : State) : Out := execNoAccess 4 true (.abx addr) s

/-- NOP `0x80`, imm, 2 cycles (R200). -/
def execNop80 (_ : Byte) (s : State) : Out := .next (tick 2 (s.atNext 2))

/-- NOP `0x82`, imm, 2 cycles (R200). -/
def execNop82 (_ : Byte) (s : State) : Out := .next (tick 2 (s.atNext 2))

/-- NOP `0x89`, imm, 2 cycles (R200). -/
def execNop89 (_ : Byte) (s : State) : Out := .next (tick 2 (s.atNext 2))

/-- NOP `0xC2`, imm, 2 cycles (R200). -/
def execNopC2 (_ : Byte) (s : State) : Out := .next (tick 2 (s.atNext 2))

/-- NOP `0xD4`, zpx, 4 cycles (R200). -/
def execNopD4 (b1 : Byte) (s : State) : Out := execNoAccess 4 false (.zpx b1) s

/-- NOP `0xDA`, implied, 2 cycles (R200). -/
def execNopDA (s : State) : Out := execImplied 2 opNop s

/-- NOP `0xDC`, abx, 4+ cycles (R200). -/
def execNopDC (addr : Word) (s : State) : Out := execNoAccess 4 true (.abx addr) s

/-- NOP `0xE2`, imm, 2 cycles (R200). -/
def execNopE2 (_ : Byte) (s : State) : Out := .next (tick 2 (s.atNext 2))

/-- NOP `0xF4`, zpx, 4 cycles (R200). -/
def execNopF4 (b1 : Byte) (s : State) : Out := execNoAccess 4 false (.zpx b1) s

/-- NOP `0xFA`, implied, 2 cycles (R200). -/
def execNopFA (s : State) : Out := execImplied 2 opNop s

/-- NOP `0xFC`, abx, 4+ cycles (R200). -/
def execNopFC (addr : Word) (s : State) : Out := execNoAccess 4 true (.abx addr) s

/-- LAX `0xA3`, izx, 6 cycles (R201). -/
def execLaxIzx (b1 : Byte) (s : State) : Out := execRead 6 false opLax (.izx b1) s

/-- LAX `0xA7`, zp, 3 cycles (R201). -/
def execLaxZp (b1 : Byte) (s : State) : Out := execRead 3 false opLax (.zp b1) s

/-- LAX `0xAF`, abs, 4 cycles (R201). -/
def execLaxAbs (addr : Word) (s : State) : Out := execRead 4 false opLax (.abs addr) s

/-- LAX `0xB3`, izy, 5+ cycles (R201). -/
def execLaxIzy (b1 : Byte) (s : State) : Out := execRead 5 true opLax (.izy b1) s

/-- LAX `0xB7`, zpy, 4 cycles (R201). -/
def execLaxZpy (b1 : Byte) (s : State) : Out := execRead 4 false opLax (.zpy b1) s

/-- LAX `0xBF`, aby, 4+ cycles (R201). -/
def execLaxAby (addr : Word) (s : State) : Out := execRead 4 true opLax (.aby addr) s

/-- SAX `0x83`, izx, 6 cycles (R202). -/
def execSaxIzx (b1 : Byte) (s : State) : Out := execStore 6 saxByte (.izx b1) s

/-- SAX `0x87`, zp, 3 cycles (R202). -/
def execSaxZp (b1 : Byte) (s : State) : Out := execStore 3 saxByte (.zp b1) s

/-- SAX `0x8F`, abs, 4 cycles (R202). -/
def execSaxAbs (addr : Word) (s : State) : Out := execStore 4 saxByte (.abs addr) s

/-- SAX `0x97`, zpy, 4 cycles (R202). -/
def execSaxZpy (b1 : Byte) (s : State) : Out := execStore 4 saxByte (.zpy b1) s

/-- DCP `0xC3`, izx, 8 cycles (R203). -/
def execDcpIzx (b1 : Byte) (s : State) : Out := execModify 8 decByte noneBefore dcpAfter (.izx b1) s

/-- DCP `0xC7`, zp, 5 cycles (R203). -/
def execDcpZp (b1 : Byte) (s : State) : Out := execModify 5 decByte noneBefore dcpAfter (.zp b1) s

/-- DCP `0xCF`, abs, 6 cycles (R203). -/
def execDcpAbs (addr : Word) (s : State) : Out := execModify 6 decByte noneBefore dcpAfter (.abs addr) s

/-- DCP `0xD3`, izy, 8 cycles (R203). -/
def execDcpIzy (b1 : Byte) (s : State) : Out := execModify 8 decByte noneBefore dcpAfter (.izy b1) s

/-- DCP `0xD7`, zpx, 6 cycles (R203). -/
def execDcpZpx (b1 : Byte) (s : State) : Out := execModify 6 decByte noneBefore dcpAfter (.zpx b1) s

/-- DCP `0xDB`, aby, 7 cycles (R203). -/
def execDcpAby (addr : Word) (s : State) : Out := execModify 7 decByte noneBefore dcpAfter (.aby addr) s

/-- DCP `0xDF`, abx, 7 cycles (R203). -/
def execDcpAbx (addr : Word) (s : State) : Out := execModify 7 decByte noneBefore dcpAfter (.abx addr) s

/-- ISB `0xE3`, izx, 8 cycles (R204). -/
def execIsbIzx (b1 : Byte) (s : State) : Out := execModify 8 incByte noneBefore isbAfter (.izx b1) s

/-- ISB `0xE7`, zp, 5 cycles (R204). -/
def execIsbZp (b1 : Byte) (s : State) : Out := execModify 5 incByte noneBefore isbAfter (.zp b1) s

/-- ISB `0xEF`, abs, 6 cycles (R204). -/
def execIsbAbs (addr : Word) (s : State) : Out := execModify 6 incByte noneBefore isbAfter (.abs addr) s

/-- ISB `0xF3`, izy, 8 cycles (R204). -/
def execIsbIzy (b1 : Byte) (s : State) : Out := execModify 8 incByte noneBefore isbAfter (.izy b1) s

/-- ISB `0xF7`, zpx, 6 cycles (R204). -/
def execIsbZpx (b1 : Byte) (s : State) : Out := execModify 6 incByte noneBefore isbAfter (.zpx b1) s

/-- ISB `0xFB`, aby, 7 cycles (R204). -/
def execIsbAby (addr : Word) (s : State) : Out := execModify 7 incByte noneBefore isbAfter (.aby addr) s

/-- ISB `0xFF`, abx, 7 cycles (R204). -/
def execIsbAbx (addr : Word) (s : State) : Out := execModify 7 incByte noneBefore isbAfter (.abx addr) s

/-- SLO `0x03`, izx, 8 cycles (R205). -/
def execSloIzx (b1 : Byte) (s : State) : Out := execModify 8 aslByte carryFromHigh sloAfter (.izx b1) s

/-- SLO `0x07`, zp, 5 cycles (R205). -/
def execSloZp (b1 : Byte) (s : State) : Out := execModify 5 aslByte carryFromHigh sloAfter (.zp b1) s

/-- SLO `0x0F`, abs, 6 cycles (R205). -/
def execSloAbs (addr : Word) (s : State) : Out := execModify 6 aslByte carryFromHigh sloAfter (.abs addr) s

/-- SLO `0x13`, izy, 8 cycles (R205). -/
def execSloIzy (b1 : Byte) (s : State) : Out := execModify 8 aslByte carryFromHigh sloAfter (.izy b1) s

/-- SLO `0x17`, zpx, 6 cycles (R205). -/
def execSloZpx (b1 : Byte) (s : State) : Out := execModify 6 aslByte carryFromHigh sloAfter (.zpx b1) s

/-- SLO `0x1B`, aby, 7 cycles (R205). -/
def execSloAby (addr : Word) (s : State) : Out := execModify 7 aslByte carryFromHigh sloAfter (.aby addr) s

/-- SLO `0x1F`, abx, 7 cycles (R205). -/
def execSloAbx (addr : Word) (s : State) : Out := execModify 7 aslByte carryFromHigh sloAfter (.abx addr) s

/-- RLA `0x23`, izx, 8 cycles (R206). -/
def execRlaIzx (b1 : Byte) (s : State) : Out := execModify 8 rolByte carryFromHigh rlaAfter (.izx b1) s

/-- RLA `0x27`, zp, 5 cycles (R206). -/
def execRlaZp (b1 : Byte) (s : State) : Out := execModify 5 rolByte carryFromHigh rlaAfter (.zp b1) s

/-- RLA `0x2F`, abs, 6 cycles (R206). -/
def execRlaAbs (addr : Word) (s : State) : Out := execModify 6 rolByte carryFromHigh rlaAfter (.abs addr) s

/-- RLA `0x33`, izy, 8 cycles (R206). -/
def execRlaIzy (b1 : Byte) (s : State) : Out := execModify 8 rolByte carryFromHigh rlaAfter (.izy b1) s

/-- RLA `0x37`, zpx, 6 cycles (R206). -/
def execRlaZpx (b1 : Byte) (s : State) : Out := execModify 6 rolByte carryFromHigh rlaAfter (.zpx b1) s

/-- RLA `0x3B`, aby, 7 cycles (R206). -/
def execRlaAby (addr : Word) (s : State) : Out := execModify 7 rolByte carryFromHigh rlaAfter (.aby addr) s

/-- RLA `0x3F`, abx, 7 cycles (R206). -/
def execRlaAbx (addr : Word) (s : State) : Out := execModify 7 rolByte carryFromHigh rlaAfter (.abx addr) s

/-- SRE `0x43`, izx, 8 cycles (R207). -/
def execSreIzx (b1 : Byte) (s : State) : Out := execModify 8 lsrByte carryFromLow sreAfter (.izx b1) s

/-- SRE `0x47`, zp, 5 cycles (R207). -/
def execSreZp (b1 : Byte) (s : State) : Out := execModify 5 lsrByte carryFromLow sreAfter (.zp b1) s

/-- SRE `0x4F`, abs, 6 cycles (R207). -/
def execSreAbs (addr : Word) (s : State) : Out := execModify 6 lsrByte carryFromLow sreAfter (.abs addr) s

/-- SRE `0x53`, izy, 8 cycles (R207). -/
def execSreIzy (b1 : Byte) (s : State) : Out := execModify 8 lsrByte carryFromLow sreAfter (.izy b1) s

/-- SRE `0x57`, zpx, 6 cycles (R207). -/
def execSreZpx (b1 : Byte) (s : State) : Out := execModify 6 lsrByte carryFromLow sreAfter (.zpx b1) s

/-- SRE `0x5B`, aby, 7 cycles (R207). -/
def execSreAby (addr : Word) (s : State) : Out := execModify 7 lsrByte carryFromLow sreAfter (.aby addr) s

/-- SRE `0x5F`, abx, 7 cycles (R207). -/
def execSreAbx (addr : Word) (s : State) : Out := execModify 7 lsrByte carryFromLow sreAfter (.abx addr) s

/-- RRA `0x63`, izx, 8 cycles (R208). -/
def execRraIzx (b1 : Byte) (s : State) : Out := execModify 8 rorByte carryFromLow rraAfter (.izx b1) s

/-- RRA `0x67`, zp, 5 cycles (R208). -/
def execRraZp (b1 : Byte) (s : State) : Out := execModify 5 rorByte carryFromLow rraAfter (.zp b1) s

/-- RRA `0x6F`, abs, 6 cycles (R208). -/
def execRraAbs (addr : Word) (s : State) : Out := execModify 6 rorByte carryFromLow rraAfter (.abs addr) s

/-- RRA `0x73`, izy, 8 cycles (R208). -/
def execRraIzy (b1 : Byte) (s : State) : Out := execModify 8 rorByte carryFromLow rraAfter (.izy b1) s

/-- RRA `0x77`, zpx, 6 cycles (R208). -/
def execRraZpx (b1 : Byte) (s : State) : Out := execModify 6 rorByte carryFromLow rraAfter (.zpx b1) s

/-- RRA `0x7B`, aby, 7 cycles (R208). -/
def execRraAby (addr : Word) (s : State) : Out := execModify 7 rorByte carryFromLow rraAfter (.aby addr) s

/-- RRA `0x7F`, abx, 7 cycles (R208). -/
def execRraAbx (addr : Word) (s : State) : Out := execModify 7 rorByte carryFromLow rraAfter (.abx addr) s

/-- SBC `0xEB`, imm, 2 cycles (R209). -/
def execSbcImmEB (b1 : Byte) (s : State) : Out := execImmediate 2 opSbc b1 s

end Sys2Proof.Machine
end

