-- ==== Sys2Proof/Syntax.lean ====
section
/-! DEFINITION. The instructions: one constructor for each of the 256 rows of spec/opcode_table.json
(30_encoding.md R88), the rows with operand bytes first, each group in the table's order. An operand byte `b1` is the immediate value, the zero-page address or pointer, or the branch offset of
R86; `addr` is the 16-bit operand with `b2` as its high byte (R87). Every operand value is legal (R92). -/

namespace Sys2Proof

/-- One constructor per opcode byte. A constructor's docstring gives the byte and the mode of R88. -/
inductive Instr where
  /-- `0x01` ORA (indirect,X) (R133). -/
  | oraIzx (b1 : Byte)
  /-- `0x03` SLO (indirect,X) (R205). -/
  | sloIzx (b1 : Byte)
  /-- `0x04` NOP zero page (R200). -/
  | nop04 (b1 : Byte)
  /-- `0x05` ORA zero page (R133). -/
  | oraZp (b1 : Byte)
  /-- `0x06` ASL zero page (R145). -/
  | aslZp (b1 : Byte)
  /-- `0x07` SLO zero page (R205). -/
  | sloZp (b1 : Byte)
  /-- `0x09` ORA immediate (R133). -/
  | oraImm (b1 : Byte)
  /-- `0x0C` NOP absolute (R200). -/
  | nop0C (addr : Word)
  /-- `0x0D` ORA absolute (R133). -/
  | oraAbs (addr : Word)
  /-- `0x0E` ASL absolute (R145). -/
  | aslAbs (addr : Word)
  /-- `0x0F` SLO absolute (R205). -/
  | sloAbs (addr : Word)
  /-- `0x10` BPL relative (R156). -/
  | bpl (b1 : Byte)
  /-- `0x11` ORA (indirect),Y (R133). -/
  | oraIzy (b1 : Byte)
  /-- `0x13` SLO (indirect),Y (R205). -/
  | sloIzy (b1 : Byte)
  /-- `0x14` NOP zero page,X (R200). -/
  | nop14 (b1 : Byte)
  /-- `0x15` ORA zero page,X (R133). -/
  | oraZpx (b1 : Byte)
  /-- `0x16` ASL zero page,X (R145). -/
  | aslZpx (b1 : Byte)
  /-- `0x17` SLO zero page,X (R205). -/
  | sloZpx (b1 : Byte)
  /-- `0x19` ORA absolute,Y (R133). -/
  | oraAby (addr : Word)
  /-- `0x1B` SLO absolute,Y (R205). -/
  | sloAby (addr : Word)
  /-- `0x1C` NOP absolute,X (R200). -/
  | nop1C (addr : Word)
  /-- `0x1D` ORA absolute,X (R133). -/
  | oraAbx (addr : Word)
  /-- `0x1E` ASL absolute,X (R145). -/
  | aslAbx (addr : Word)
  /-- `0x1F` SLO absolute,X (R205). -/
  | sloAbx (addr : Word)
  /-- `0x20` JSR absolute (R160). -/
  | jsr (addr : Word)
  /-- `0x21` AND (indirect,X) (R132). -/
  | andIzx (b1 : Byte)
  /-- `0x23` RLA (indirect,X) (R206). -/
  | rlaIzx (b1 : Byte)
  /-- `0x24` BIT zero page (R135). -/
  | bitZp (b1 : Byte)
  /-- `0x25` AND zero page (R132). -/
  | andZp (b1 : Byte)
  /-- `0x26` ROL zero page (R147). -/
  | rolZp (b1 : Byte)
  /-- `0x27` RLA zero page (R206). -/
  | rlaZp (b1 : Byte)
  /-- `0x29` AND immediate (R132). -/
  | andImm (b1 : Byte)
  /-- `0x2C` BIT absolute (R135). -/
  | bitAbs (addr : Word)
  /-- `0x2D` AND absolute (R132). -/
  | andAbs (addr : Word)
  /-- `0x2E` ROL absolute (R147). -/
  | rolAbs (addr : Word)
  /-- `0x2F` RLA absolute (R206). -/
  | rlaAbs (addr : Word)
  /-- `0x30` BMI relative (R154). -/
  | bmi (b1 : Byte)
  /-- `0x31` AND (indirect),Y (R132). -/
  | andIzy (b1 : Byte)
  /-- `0x33` RLA (indirect),Y (R206). -/
  | rlaIzy (b1 : Byte)
  /-- `0x34` NOP zero page,X (R200). -/
  | nop34 (b1 : Byte)
  /-- `0x35` AND zero page,X (R132). -/
  | andZpx (b1 : Byte)
  /-- `0x36` ROL zero page,X (R147). -/
  | rolZpx (b1 : Byte)
  /-- `0x37` RLA zero page,X (R206). -/
  | rlaZpx (b1 : Byte)
  /-- `0x39` AND absolute,Y (R132). -/
  | andAby (addr : Word)
  /-- `0x3B` RLA absolute,Y (R206). -/
  | rlaAby (addr : Word)
  /-- `0x3C` NOP absolute,X (R200). -/
  | nop3C (addr : Word)
  /-- `0x3D` AND absolute,X (R132). -/
  | andAbx (addr : Word)
  /-- `0x3E` ROL absolute,X (R147). -/
  | rolAbx (addr : Word)
  /-- `0x3F` RLA absolute,X (R206). -/
  | rlaAbx (addr : Word)
  /-- `0x41` EOR (indirect,X) (R134). -/
  | eorIzx (b1 : Byte)
  /-- `0x43` SRE (indirect,X) (R207). -/
  | sreIzx (b1 : Byte)
  /-- `0x44` NOP zero page (R200). -/
  | nop44 (b1 : Byte)
  /-- `0x45` EOR zero page (R134). -/
  | eorZp (b1 : Byte)
  /-- `0x46` LSR zero page (R146). -/
  | lsrZp (b1 : Byte)
  /-- `0x47` SRE zero page (R207). -/
  | sreZp (b1 : Byte)
  /-- `0x49` EOR immediate (R134). -/
  | eorImm (b1 : Byte)
  /-- `0x4C` JMP absolute (R159). -/
  | jmpAbs (addr : Word)
  /-- `0x4D` EOR absolute (R134). -/
  | eorAbs (addr : Word)
  /-- `0x4E` LSR absolute (R146). -/
  | lsrAbs (addr : Word)
  /-- `0x4F` SRE absolute (R207). -/
  | sreAbs (addr : Word)
  /-- `0x50` BVC relative (R157). -/
  | bvc (b1 : Byte)
  /-- `0x51` EOR (indirect),Y (R134). -/
  | eorIzy (b1 : Byte)
  /-- `0x53` SRE (indirect),Y (R207). -/
  | sreIzy (b1 : Byte)
  /-- `0x54` NOP zero page,X (R200). -/
  | nop54 (b1 : Byte)
  /-- `0x55` EOR zero page,X (R134). -/
  | eorZpx (b1 : Byte)
  /-- `0x56` LSR zero page,X (R146). -/
  | lsrZpx (b1 : Byte)
  /-- `0x57` SRE zero page,X (R207). -/
  | sreZpx (b1 : Byte)
  /-- `0x59` EOR absolute,Y (R134). -/
  | eorAby (addr : Word)
  /-- `0x5B` SRE absolute,Y (R207). -/
  | sreAby (addr : Word)
  /-- `0x5C` NOP absolute,X (R200). -/
  | nop5C (addr : Word)
  /-- `0x5D` EOR absolute,X (R134). -/
  | eorAbx (addr : Word)
  /-- `0x5E` LSR absolute,X (R146). -/
  | lsrAbx (addr : Word)
  /-- `0x5F` SRE absolute,X (R207). -/
  | sreAbx (addr : Word)
  /-- `0x61` ADC (indirect,X) (R130). -/
  | adcIzx (b1 : Byte)
  /-- `0x63` RRA (indirect,X) (R208). -/
  | rraIzx (b1 : Byte)
  /-- `0x64` NOP zero page (R200). -/
  | nop64 (b1 : Byte)
  /-- `0x65` ADC zero page (R130). -/
  | adcZp (b1 : Byte)
  /-- `0x66` ROR zero page (R148). -/
  | rorZp (b1 : Byte)
  /-- `0x67` RRA zero page (R208). -/
  | rraZp (b1 : Byte)
  /-- `0x69` ADC immediate (R130). -/
  | adcImm (b1 : Byte)
  /-- `0x6C` JMP indirect (R159). -/
  | jmpInd (addr : Word)
  /-- `0x6D` ADC absolute (R130). -/
  | adcAbs (addr : Word)
  /-- `0x6E` ROR absolute (R148). -/
  | rorAbs (addr : Word)
  /-- `0x6F` RRA absolute (R208). -/
  | rraAbs (addr : Word)
  /-- `0x70` BVS relative (R158). -/
  | bvs (b1 : Byte)
  /-- `0x71` ADC (indirect),Y (R130). -/
  | adcIzy (b1 : Byte)
  /-- `0x73` RRA (indirect),Y (R208). -/
  | rraIzy (b1 : Byte)
  /-- `0x74` NOP zero page,X (R200). -/
  | nop74 (b1 : Byte)
  /-- `0x75` ADC zero page,X (R130). -/
  | adcZpx (b1 : Byte)
  /-- `0x76` ROR zero page,X (R148). -/
  | rorZpx (b1 : Byte)
  /-- `0x77` RRA zero page,X (R208). -/
  | rraZpx (b1 : Byte)
  /-- `0x79` ADC absolute,Y (R130). -/
  | adcAby (addr : Word)
  /-- `0x7B` RRA absolute,Y (R208). -/
  | rraAby (addr : Word)
  /-- `0x7C` NOP absolute,X (R200). -/
  | nop7C (addr : Word)
  /-- `0x7D` ADC absolute,X (R130). -/
  | adcAbx (addr : Word)
  /-- `0x7E` ROR absolute,X (R148). -/
  | rorAbx (addr : Word)
  /-- `0x7F` RRA absolute,X (R208). -/
  | rraAbx (addr : Word)
  /-- `0x80` NOP immediate (R200). -/
  | nop80 (b1 : Byte)
  /-- `0x81` STA (indirect,X) (R173). -/
  | staIzx (b1 : Byte)
  /-- `0x82` NOP immediate (R200). -/
  | nop82 (b1 : Byte)
  /-- `0x83` SAX (indirect,X) (R202). -/
  | saxIzx (b1 : Byte)
  /-- `0x84` STY zero page (R175). -/
  | styZp (b1 : Byte)
  /-- `0x85` STA zero page (R173). -/
  | staZp (b1 : Byte)
  /-- `0x86` STX zero page (R174). -/
  | stxZp (b1 : Byte)
  /-- `0x87` SAX zero page (R202). -/
  | saxZp (b1 : Byte)
  /-- `0x89` NOP immediate (R200). -/
  | nop89 (b1 : Byte)
  /-- `0x8C` STY absolute (R175). -/
  | styAbs (addr : Word)
  /-- `0x8D` STA absolute (R173). -/
  | staAbs (addr : Word)
  /-- `0x8E` STX absolute (R174). -/
  | stxAbs (addr : Word)
  /-- `0x8F` SAX absolute (R202). -/
  | saxAbs (addr : Word)
  /-- `0x90` BCC relative (R151). -/
  | bcc (b1 : Byte)
  /-- `0x91` STA (indirect),Y (R173). -/
  | staIzy (b1 : Byte)
  /-- `0x94` STY zero page,X (R175). -/
  | styZpx (b1 : Byte)
  /-- `0x95` STA zero page,X (R173). -/
  | staZpx (b1 : Byte)
  /-- `0x96` STX zero page,Y (R174). -/
  | stxZpy (b1 : Byte)
  /-- `0x97` SAX zero page,Y (R202). -/
  | saxZpy (b1 : Byte)
  /-- `0x99` STA absolute,Y (R173). -/
  | staAby (addr : Word)
  /-- `0x9D` STA absolute,X (R173). -/
  | staAbx (addr : Word)
  /-- `0xA0` LDY immediate (R172). -/
  | ldyImm (b1 : Byte)
  /-- `0xA1` LDA (indirect,X) (R170). -/
  | ldaIzx (b1 : Byte)
  /-- `0xA2` LDX immediate (R171). -/
  | ldxImm (b1 : Byte)
  /-- `0xA3` LAX (indirect,X) (R201). -/
  | laxIzx (b1 : Byte)
  /-- `0xA4` LDY zero page (R172). -/
  | ldyZp (b1 : Byte)
  /-- `0xA5` LDA zero page (R170). -/
  | ldaZp (b1 : Byte)
  /-- `0xA6` LDX zero page (R171). -/
  | ldxZp (b1 : Byte)
  /-- `0xA7` LAX zero page (R201). -/
  | laxZp (b1 : Byte)
  /-- `0xA9` LDA immediate (R170). -/
  | ldaImm (b1 : Byte)
  /-- `0xAC` LDY absolute (R172). -/
  | ldyAbs (addr : Word)
  /-- `0xAD` LDA absolute (R170). -/
  | ldaAbs (addr : Word)
  /-- `0xAE` LDX absolute (R171). -/
  | ldxAbs (addr : Word)
  /-- `0xAF` LAX absolute (R201). -/
  | laxAbs (addr : Word)
  /-- `0xB0` BCS relative (R152). -/
  | bcs (b1 : Byte)
  /-- `0xB1` LDA (indirect),Y (R170). -/
  | ldaIzy (b1 : Byte)
  /-- `0xB3` LAX (indirect),Y (R201). -/
  | laxIzy (b1 : Byte)
  /-- `0xB4` LDY zero page,X (R172). -/
  | ldyZpx (b1 : Byte)
  /-- `0xB5` LDA zero page,X (R170). -/
  | ldaZpx (b1 : Byte)
  /-- `0xB6` LDX zero page,Y (R171). -/
  | ldxZpy (b1 : Byte)
  /-- `0xB7` LAX zero page,Y (R201). -/
  | laxZpy (b1 : Byte)
  /-- `0xB9` LDA absolute,Y (R170). -/
  | ldaAby (addr : Word)
  /-- `0xBC` LDY absolute,X (R172). -/
  | ldyAbx (addr : Word)
  /-- `0xBD` LDA absolute,X (R170). -/
  | ldaAbx (addr : Word)
  /-- `0xBE` LDX absolute,Y (R171). -/
  | ldxAby (addr : Word)
  /-- `0xBF` LAX absolute,Y (R201). -/
  | laxAby (addr : Word)
  /-- `0xC0` CPY immediate (R138). -/
  | cpyImm (b1 : Byte)
  /-- `0xC1` CMP (indirect,X) (R136). -/
  | cmpIzx (b1 : Byte)
  /-- `0xC2` NOP immediate (R200). -/
  | nopC2 (b1 : Byte)
  /-- `0xC3` DCP (indirect,X) (R203). -/
  | dcpIzx (b1 : Byte)
  /-- `0xC4` CPY zero page (R138). -/
  | cpyZp (b1 : Byte)
  /-- `0xC5` CMP zero page (R136). -/
  | cmpZp (b1 : Byte)
  /-- `0xC6` DEC zero page (R140). -/
  | decZp (b1 : Byte)
  /-- `0xC7` DCP zero page (R203). -/
  | dcpZp (b1 : Byte)
  /-- `0xC9` CMP immediate (R136). -/
  | cmpImm (b1 : Byte)
  /-- `0xCC` CPY absolute (R138). -/
  | cpyAbs (addr : Word)
  /-- `0xCD` CMP absolute (R136). -/
  | cmpAbs (addr : Word)
  /-- `0xCE` DEC absolute (R140). -/
  | decAbs (addr : Word)
  /-- `0xCF` DCP absolute (R203). -/
  | dcpAbs (addr : Word)
  /-- `0xD0` BNE relative (R155). -/
  | bne (b1 : Byte)
  /-- `0xD1` CMP (indirect),Y (R136). -/
  | cmpIzy (b1 : Byte)
  /-- `0xD3` DCP (indirect),Y (R203). -/
  | dcpIzy (b1 : Byte)
  /-- `0xD4` NOP zero page,X (R200). -/
  | nopD4 (b1 : Byte)
  /-- `0xD5` CMP zero page,X (R136). -/
  | cmpZpx (b1 : Byte)
  /-- `0xD6` DEC zero page,X (R140). -/
  | decZpx (b1 : Byte)
  /-- `0xD7` DCP zero page,X (R203). -/
  | dcpZpx (b1 : Byte)
  /-- `0xD9` CMP absolute,Y (R136). -/
  | cmpAby (addr : Word)
  /-- `0xDB` DCP absolute,Y (R203). -/
  | dcpAby (addr : Word)
  /-- `0xDC` NOP absolute,X (R200). -/
  | nopDC (addr : Word)
  /-- `0xDD` CMP absolute,X (R136). -/
  | cmpAbx (addr : Word)
  /-- `0xDE` DEC absolute,X (R140). -/
  | decAbx (addr : Word)
  /-- `0xDF` DCP absolute,X (R203). -/
  | dcpAbx (addr : Word)
  /-- `0xE0` CPX immediate (R137). -/
  | cpxImm (b1 : Byte)
  /-- `0xE1` SBC (indirect,X) (R131). -/
  | sbcIzx (b1 : Byte)
  /-- `0xE2` NOP immediate (R200). -/
  | nopE2 (b1 : Byte)
  /-- `0xE3` ISB (indirect,X) (R204). -/
  | isbIzx (b1 : Byte)
  /-- `0xE4` CPX zero page (R137). -/
  | cpxZp (b1 : Byte)
  /-- `0xE5` SBC zero page (R131). -/
  | sbcZp (b1 : Byte)
  /-- `0xE6` INC zero page (R139). -/
  | incZp (b1 : Byte)
  /-- `0xE7` ISB zero page (R204). -/
  | isbZp (b1 : Byte)
  /-- `0xE9` SBC immediate (R131). -/
  | sbcImm (b1 : Byte)
  /-- `0xEB` SBC immediate (R209). -/
  | sbcImmEB (b1 : Byte)
  /-- `0xEC` CPX absolute (R137). -/
  | cpxAbs (addr : Word)
  /-- `0xED` SBC absolute (R131). -/
  | sbcAbs (addr : Word)
  /-- `0xEE` INC absolute (R139). -/
  | incAbs (addr : Word)
  /-- `0xEF` ISB absolute (R204). -/
  | isbAbs (addr : Word)
  /-- `0xF0` BEQ relative (R153). -/
  | beq (b1 : Byte)
  /-- `0xF1` SBC (indirect),Y (R131). -/
  | sbcIzy (b1 : Byte)
  /-- `0xF3` ISB (indirect),Y (R204). -/
  | isbIzy (b1 : Byte)
  /-- `0xF4` NOP zero page,X (R200). -/
  | nopF4 (b1 : Byte)
  /-- `0xF5` SBC zero page,X (R131). -/
  | sbcZpx (b1 : Byte)
  /-- `0xF6` INC zero page,X (R139). -/
  | incZpx (b1 : Byte)
  /-- `0xF7` ISB zero page,X (R204). -/
  | isbZpx (b1 : Byte)
  /-- `0xF9` SBC absolute,Y (R131). -/
  | sbcAby (addr : Word)
  /-- `0xFB` ISB absolute,Y (R204). -/
  | isbAby (addr : Word)
  /-- `0xFC` NOP absolute,X (R200). -/
  | nopFC (addr : Word)
  /-- `0xFD` SBC absolute,X (R131). -/
  | sbcAbx (addr : Word)
  /-- `0xFE` INC absolute,X (R139). -/
  | incAbx (addr : Word)
  /-- `0xFF` ISB absolute,X (R204). -/
  | isbAbx (addr : Word)
  /-- `0x00` BRK implied (R162). -/
  | brk
  /-- `0x02` refused byte, conventionally JAM (R90). -/
  | illegal02
  /-- `0x08` PHP implied (R183). -/
  | php
  /-- `0x0A` ASL accumulator (R145). -/
  | aslAcc
  /-- `0x0B` refused byte, conventionally ANC (R90). -/
  | illegal0B
  /-- `0x12` refused byte, conventionally JAM (R90). -/
  | illegal12
  /-- `0x18` CLC implied (R186). -/
  | clc
  /-- `0x1A` NOP implied (R200). -/
  | nop1A
  /-- `0x22` refused byte, conventionally JAM (R90). -/
  | illegal22
  /-- `0x28` PLP implied (R185). -/
  | plp
  /-- `0x2A` ROL accumulator (R147). -/
  | rolAcc
  /-- `0x2B` refused byte, conventionally ANC (R90). -/
  | illegal2B
  /-- `0x32` refused byte, conventionally JAM (R90). -/
  | illegal32
  /-- `0x38` SEC implied (R187). -/
  | sec
  /-- `0x3A` NOP implied (R200). -/
  | nop3A
  /-- `0x40` RTI implied (R163). -/
  | rti
  /-- `0x42` refused byte, conventionally JAM (R90). -/
  | illegal42
  /-- `0x48` PHA implied (R182). -/
  | pha
  /-- `0x4A` LSR accumulator (R146). -/
  | lsrAcc
  /-- `0x4B` refused byte, conventionally ALR (R90). -/
  | illegal4B
  /-- `0x52` refused byte, conventionally JAM (R90). -/
  | illegal52
  /-- `0x58` CLI implied (R188). -/
  | cli
  /-- `0x5A` NOP implied (R200). -/
  | nop5A
  /-- `0x60` RTS implied (R161). -/
  | rts
  /-- `0x62` refused byte, conventionally JAM (R90). -/
  | illegal62
  /-- `0x68` PLA implied (R184). -/
  | pla
  /-- `0x6A` ROR accumulator (R148). -/
  | rorAcc
  /-- `0x6B` refused byte, conventionally ARR (R90). -/
  | illegal6B
  /-- `0x72` refused byte, conventionally JAM (R90). -/
  | illegal72
  /-- `0x78` SEI implied (R189). -/
  | sei
  /-- `0x7A` NOP implied (R200). -/
  | nop7A
  /-- `0x88` DEY implied (R144). -/
  | dey
  /-- `0x8A` TXA implied (R178). -/
  | txa
  /-- `0x8B` refused byte, conventionally XAA (R90). -/
  | illegal8B
  /-- `0x92` refused byte, conventionally JAM (R90). -/
  | illegal92
  /-- `0x93` refused byte, conventionally AHX (R90). -/
  | illegal93
  /-- `0x98` TYA implied (R179). -/
  | tya
  /-- `0x9A` TXS implied (R181). -/
  | txs
  /-- `0x9B` refused byte, conventionally TAS (R90). -/
  | illegal9B
  /-- `0x9C` refused byte, conventionally SHY (R90). -/
  | illegal9C
  /-- `0x9E` refused byte, conventionally SHX (R90). -/
  | illegal9E
  /-- `0x9F` refused byte, conventionally AHX (R90). -/
  | illegal9F
  /-- `0xA8` TAY implied (R177). -/
  | tay
  /-- `0xAA` TAX implied (R176). -/
  | tax
  /-- `0xAB` refused byte, conventionally LXA (R90). -/
  | illegalAB
  /-- `0xB2` refused byte, conventionally JAM (R90). -/
  | illegalB2
  /-- `0xB8` CLV implied (R192). -/
  | clv
  /-- `0xBA` TSX implied (R180). -/
  | tsx
  /-- `0xBB` refused byte, conventionally LAS (R90). -/
  | illegalBB
  /-- `0xC8` INY implied (R142). -/
  | iny
  /-- `0xCA` DEX implied (R143). -/
  | dex
  /-- `0xCB` refused byte, conventionally AXS (R90). -/
  | illegalCB
  /-- `0xD2` refused byte, conventionally JAM (R90). -/
  | illegalD2
  /-- `0xD8` CLD implied (R190). -/
  | cld
  /-- `0xDA` NOP implied (R200). -/
  | nopDA
  /-- `0xE8` INX implied (R141). -/
  | inx
  /-- `0xEA` NOP implied (R193). -/
  | nop
  /-- `0xF2` refused byte, conventionally JAM (R90). -/
  | illegalF2
  /-- `0xF8` SED implied (R191). -/
  | sed
  /-- `0xFA` NOP implied (R200). -/
  | nopFA
  deriving DecidableEq, Repr

end Sys2Proof
end

