-- ==== Sys2Proof/Machine/Dispatch.lean ====
section
/-! DEFINITION. The meaning of every instruction: one arm per constructor, each one direct call of its own meaning. -/

namespace Sys2Proof.Machine

def exec (i : Instr) (s : State) : Host.Outcome State Fault Refusal :=
  match i with
  | .brk => Sys2Proof.Machine.execBrk s
  | .oraIzx b1 => Sys2Proof.Machine.execOraIzx b1 s
  | .illegal02 => Sys2Proof.Machine.execIllegal02 s
  | .sloIzx b1 => Sys2Proof.Machine.execSloIzx b1 s
  | .nop04 b1 => Sys2Proof.Machine.execNop04 b1 s
  | .oraZp b1 => Sys2Proof.Machine.execOraZp b1 s
  | .aslZp b1 => Sys2Proof.Machine.execAslZp b1 s
  | .sloZp b1 => Sys2Proof.Machine.execSloZp b1 s
  | .php => Sys2Proof.Machine.execPhp s
  | .oraImm b1 => Sys2Proof.Machine.execOraImm b1 s
  | .aslAcc => Sys2Proof.Machine.execAslAcc s
  | .illegal0B => Sys2Proof.Machine.execIllegal0B s
  | .nop0C addr => Sys2Proof.Machine.execNop0C addr s
  | .oraAbs addr => Sys2Proof.Machine.execOraAbs addr s
  | .aslAbs addr => Sys2Proof.Machine.execAslAbs addr s
  | .sloAbs addr => Sys2Proof.Machine.execSloAbs addr s
  | .bpl b1 => Sys2Proof.Machine.execBpl b1 s
  | .oraIzy b1 => Sys2Proof.Machine.execOraIzy b1 s
  | .illegal12 => Sys2Proof.Machine.execIllegal12 s
  | .sloIzy b1 => Sys2Proof.Machine.execSloIzy b1 s
  | .nop14 b1 => Sys2Proof.Machine.execNop14 b1 s
  | .oraZpx b1 => Sys2Proof.Machine.execOraZpx b1 s
  | .aslZpx b1 => Sys2Proof.Machine.execAslZpx b1 s
  | .sloZpx b1 => Sys2Proof.Machine.execSloZpx b1 s
  | .clc => Sys2Proof.Machine.execClc s
  | .oraAby addr => Sys2Proof.Machine.execOraAby addr s
  | .nop1A => Sys2Proof.Machine.execNop1A s
  | .sloAby addr => Sys2Proof.Machine.execSloAby addr s
  | .nop1C addr => Sys2Proof.Machine.execNop1C addr s
  | .oraAbx addr => Sys2Proof.Machine.execOraAbx addr s
  | .aslAbx addr => Sys2Proof.Machine.execAslAbx addr s
  | .sloAbx addr => Sys2Proof.Machine.execSloAbx addr s
  | .jsr addr => Sys2Proof.Machine.execJsr addr s
  | .andIzx b1 => Sys2Proof.Machine.execAndIzx b1 s
  | .illegal22 => Sys2Proof.Machine.execIllegal22 s
  | .rlaIzx b1 => Sys2Proof.Machine.execRlaIzx b1 s
  | .bitZp b1 => Sys2Proof.Machine.execBitZp b1 s
  | .andZp b1 => Sys2Proof.Machine.execAndZp b1 s
  | .rolZp b1 => Sys2Proof.Machine.execRolZp b1 s
  | .rlaZp b1 => Sys2Proof.Machine.execRlaZp b1 s
  | .plp => Sys2Proof.Machine.execPlp s
  | .andImm b1 => Sys2Proof.Machine.execAndImm b1 s
  | .rolAcc => Sys2Proof.Machine.execRolAcc s
  | .illegal2B => Sys2Proof.Machine.execIllegal2B s
  | .bitAbs addr => Sys2Proof.Machine.execBitAbs addr s
  | .andAbs addr => Sys2Proof.Machine.execAndAbs addr s
  | .rolAbs addr => Sys2Proof.Machine.execRolAbs addr s
  | .rlaAbs addr => Sys2Proof.Machine.execRlaAbs addr s
  | .bmi b1 => Sys2Proof.Machine.execBmi b1 s
  | .andIzy b1 => Sys2Proof.Machine.execAndIzy b1 s
  | .illegal32 => Sys2Proof.Machine.execIllegal32 s
  | .rlaIzy b1 => Sys2Proof.Machine.execRlaIzy b1 s
  | .nop34 b1 => Sys2Proof.Machine.execNop34 b1 s
  | .andZpx b1 => Sys2Proof.Machine.execAndZpx b1 s
  | .rolZpx b1 => Sys2Proof.Machine.execRolZpx b1 s
  | .rlaZpx b1 => Sys2Proof.Machine.execRlaZpx b1 s
  | .sec => Sys2Proof.Machine.execSec s
  | .andAby addr => Sys2Proof.Machine.execAndAby addr s
  | .nop3A => Sys2Proof.Machine.execNop3A s
  | .rlaAby addr => Sys2Proof.Machine.execRlaAby addr s
  | .nop3C addr => Sys2Proof.Machine.execNop3C addr s
  | .andAbx addr => Sys2Proof.Machine.execAndAbx addr s
  | .rolAbx addr => Sys2Proof.Machine.execRolAbx addr s
  | .rlaAbx addr => Sys2Proof.Machine.execRlaAbx addr s
  | .rti => Sys2Proof.Machine.execRti s
  | .eorIzx b1 => Sys2Proof.Machine.execEorIzx b1 s
  | .illegal42 => Sys2Proof.Machine.execIllegal42 s
  | .sreIzx b1 => Sys2Proof.Machine.execSreIzx b1 s
  | .nop44 b1 => Sys2Proof.Machine.execNop44 b1 s
  | .eorZp b1 => Sys2Proof.Machine.execEorZp b1 s
  | .lsrZp b1 => Sys2Proof.Machine.execLsrZp b1 s
  | .sreZp b1 => Sys2Proof.Machine.execSreZp b1 s
  | .pha => Sys2Proof.Machine.execPha s
  | .eorImm b1 => Sys2Proof.Machine.execEorImm b1 s
  | .lsrAcc => Sys2Proof.Machine.execLsrAcc s
  | .illegal4B => Sys2Proof.Machine.execIllegal4B s
  | .jmpAbs addr => Sys2Proof.Machine.execJmpAbs addr s
  | .eorAbs addr => Sys2Proof.Machine.execEorAbs addr s
  | .lsrAbs addr => Sys2Proof.Machine.execLsrAbs addr s
  | .sreAbs addr => Sys2Proof.Machine.execSreAbs addr s
  | .bvc b1 => Sys2Proof.Machine.execBvc b1 s
  | .eorIzy b1 => Sys2Proof.Machine.execEorIzy b1 s
  | .illegal52 => Sys2Proof.Machine.execIllegal52 s
  | .sreIzy b1 => Sys2Proof.Machine.execSreIzy b1 s
  | .nop54 b1 => Sys2Proof.Machine.execNop54 b1 s
  | .eorZpx b1 => Sys2Proof.Machine.execEorZpx b1 s
  | .lsrZpx b1 => Sys2Proof.Machine.execLsrZpx b1 s
  | .sreZpx b1 => Sys2Proof.Machine.execSreZpx b1 s
  | .cli => Sys2Proof.Machine.execCli s
  | .eorAby addr => Sys2Proof.Machine.execEorAby addr s
  | .nop5A => Sys2Proof.Machine.execNop5A s
  | .sreAby addr => Sys2Proof.Machine.execSreAby addr s
  | .nop5C addr => Sys2Proof.Machine.execNop5C addr s
  | .eorAbx addr => Sys2Proof.Machine.execEorAbx addr s
  | .lsrAbx addr => Sys2Proof.Machine.execLsrAbx addr s
  | .sreAbx addr => Sys2Proof.Machine.execSreAbx addr s
  | .rts => Sys2Proof.Machine.execRts s
  | .adcIzx b1 => Sys2Proof.Machine.execAdcIzx b1 s
  | .illegal62 => Sys2Proof.Machine.execIllegal62 s
  | .rraIzx b1 => Sys2Proof.Machine.execRraIzx b1 s
  | .nop64 b1 => Sys2Proof.Machine.execNop64 b1 s
  | .adcZp b1 => Sys2Proof.Machine.execAdcZp b1 s
  | .rorZp b1 => Sys2Proof.Machine.execRorZp b1 s
  | .rraZp b1 => Sys2Proof.Machine.execRraZp b1 s
  | .pla => Sys2Proof.Machine.execPla s
  | .adcImm b1 => Sys2Proof.Machine.execAdcImm b1 s
  | .rorAcc => Sys2Proof.Machine.execRorAcc s
  | .illegal6B => Sys2Proof.Machine.execIllegal6B s
  | .jmpInd addr => Sys2Proof.Machine.execJmpInd addr s
  | .adcAbs addr => Sys2Proof.Machine.execAdcAbs addr s
  | .rorAbs addr => Sys2Proof.Machine.execRorAbs addr s
  | .rraAbs addr => Sys2Proof.Machine.execRraAbs addr s
  | .bvs b1 => Sys2Proof.Machine.execBvs b1 s
  | .adcIzy b1 => Sys2Proof.Machine.execAdcIzy b1 s
  | .illegal72 => Sys2Proof.Machine.execIllegal72 s
  | .rraIzy b1 => Sys2Proof.Machine.execRraIzy b1 s
  | .nop74 b1 => Sys2Proof.Machine.execNop74 b1 s
  | .adcZpx b1 => Sys2Proof.Machine.execAdcZpx b1 s
  | .rorZpx b1 => Sys2Proof.Machine.execRorZpx b1 s
  | .rraZpx b1 => Sys2Proof.Machine.execRraZpx b1 s
  | .sei => Sys2Proof.Machine.execSei s
  | .adcAby addr => Sys2Proof.Machine.execAdcAby addr s
  | .nop7A => Sys2Proof.Machine.execNop7A s
  | .rraAby addr => Sys2Proof.Machine.execRraAby addr s
  | .nop7C addr => Sys2Proof.Machine.execNop7C addr s
  | .adcAbx addr => Sys2Proof.Machine.execAdcAbx addr s
  | .rorAbx addr => Sys2Proof.Machine.execRorAbx addr s
  | .rraAbx addr => Sys2Proof.Machine.execRraAbx addr s
  | .nop80 b1 => Sys2Proof.Machine.execNop80 b1 s
  | .staIzx b1 => Sys2Proof.Machine.execStaIzx b1 s
  | .nop82 b1 => Sys2Proof.Machine.execNop82 b1 s
  | .saxIzx b1 => Sys2Proof.Machine.execSaxIzx b1 s
  | .styZp b1 => Sys2Proof.Machine.execStyZp b1 s
  | .staZp b1 => Sys2Proof.Machine.execStaZp b1 s
  | .stxZp b1 => Sys2Proof.Machine.execStxZp b1 s
  | .saxZp b1 => Sys2Proof.Machine.execSaxZp b1 s
  | .dey => Sys2Proof.Machine.execDey s
  | .nop89 b1 => Sys2Proof.Machine.execNop89 b1 s
  | .txa => Sys2Proof.Machine.execTxa s
  | .illegal8B => Sys2Proof.Machine.execIllegal8B s
  | .styAbs addr => Sys2Proof.Machine.execStyAbs addr s
  | .staAbs addr => Sys2Proof.Machine.execStaAbs addr s
  | .stxAbs addr => Sys2Proof.Machine.execStxAbs addr s
  | .saxAbs addr => Sys2Proof.Machine.execSaxAbs addr s
  | .bcc b1 => Sys2Proof.Machine.execBcc b1 s
  | .staIzy b1 => Sys2Proof.Machine.execStaIzy b1 s
  | .illegal92 => Sys2Proof.Machine.execIllegal92 s
  | .illegal93 => Sys2Proof.Machine.execIllegal93 s
  | .styZpx b1 => Sys2Proof.Machine.execStyZpx b1 s
  | .staZpx b1 => Sys2Proof.Machine.execStaZpx b1 s
  | .stxZpy b1 => Sys2Proof.Machine.execStxZpy b1 s
  | .saxZpy b1 => Sys2Proof.Machine.execSaxZpy b1 s
  | .tya => Sys2Proof.Machine.execTya s
  | .staAby addr => Sys2Proof.Machine.execStaAby addr s
  | .txs => Sys2Proof.Machine.execTxs s
  | .illegal9B => Sys2Proof.Machine.execIllegal9B s
  | .illegal9C => Sys2Proof.Machine.execIllegal9C s
  | .staAbx addr => Sys2Proof.Machine.execStaAbx addr s
  | .illegal9E => Sys2Proof.Machine.execIllegal9E s
  | .illegal9F => Sys2Proof.Machine.execIllegal9F s
  | .ldyImm b1 => Sys2Proof.Machine.execLdyImm b1 s
  | .ldaIzx b1 => Sys2Proof.Machine.execLdaIzx b1 s
  | .ldxImm b1 => Sys2Proof.Machine.execLdxImm b1 s
  | .laxIzx b1 => Sys2Proof.Machine.execLaxIzx b1 s
  | .ldyZp b1 => Sys2Proof.Machine.execLdyZp b1 s
  | .ldaZp b1 => Sys2Proof.Machine.execLdaZp b1 s
  | .ldxZp b1 => Sys2Proof.Machine.execLdxZp b1 s
  | .laxZp b1 => Sys2Proof.Machine.execLaxZp b1 s
  | .tay => Sys2Proof.Machine.execTay s
  | .ldaImm b1 => Sys2Proof.Machine.execLdaImm b1 s
  | .tax => Sys2Proof.Machine.execTax s
  | .illegalAB => Sys2Proof.Machine.execIllegalAB s
  | .ldyAbs addr => Sys2Proof.Machine.execLdyAbs addr s
  | .ldaAbs addr => Sys2Proof.Machine.execLdaAbs addr s
  | .ldxAbs addr => Sys2Proof.Machine.execLdxAbs addr s
  | .laxAbs addr => Sys2Proof.Machine.execLaxAbs addr s
  | .bcs b1 => Sys2Proof.Machine.execBcs b1 s
  | .ldaIzy b1 => Sys2Proof.Machine.execLdaIzy b1 s
  | .illegalB2 => Sys2Proof.Machine.execIllegalB2 s
  | .laxIzy b1 => Sys2Proof.Machine.execLaxIzy b1 s
  | .ldyZpx b1 => Sys2Proof.Machine.execLdyZpx b1 s
  | .ldaZpx b1 => Sys2Proof.Machine.execLdaZpx b1 s
  | .ldxZpy b1 => Sys2Proof.Machine.execLdxZpy b1 s
  | .laxZpy b1 => Sys2Proof.Machine.execLaxZpy b1 s
  | .clv => Sys2Proof.Machine.execClv s
  | .ldaAby addr => Sys2Proof.Machine.execLdaAby addr s
  | .tsx => Sys2Proof.Machine.execTsx s
  | .illegalBB => Sys2Proof.Machine.execIllegalBB s
  | .ldyAbx addr => Sys2Proof.Machine.execLdyAbx addr s
  | .ldaAbx addr => Sys2Proof.Machine.execLdaAbx addr s
  | .ldxAby addr => Sys2Proof.Machine.execLdxAby addr s
  | .laxAby addr => Sys2Proof.Machine.execLaxAby addr s
  | .cpyImm b1 => Sys2Proof.Machine.execCpyImm b1 s
  | .cmpIzx b1 => Sys2Proof.Machine.execCmpIzx b1 s
  | .nopC2 b1 => Sys2Proof.Machine.execNopC2 b1 s
  | .dcpIzx b1 => Sys2Proof.Machine.execDcpIzx b1 s
  | .cpyZp b1 => Sys2Proof.Machine.execCpyZp b1 s
  | .cmpZp b1 => Sys2Proof.Machine.execCmpZp b1 s
  | .decZp b1 => Sys2Proof.Machine.execDecZp b1 s
  | .dcpZp b1 => Sys2Proof.Machine.execDcpZp b1 s
  | .iny => Sys2Proof.Machine.execIny s
  | .cmpImm b1 => Sys2Proof.Machine.execCmpImm b1 s
  | .dex => Sys2Proof.Machine.execDex s
  | .illegalCB => Sys2Proof.Machine.execIllegalCB s
  | .cpyAbs addr => Sys2Proof.Machine.execCpyAbs addr s
  | .cmpAbs addr => Sys2Proof.Machine.execCmpAbs addr s
  | .decAbs addr => Sys2Proof.Machine.execDecAbs addr s
  | .dcpAbs addr => Sys2Proof.Machine.execDcpAbs addr s
  | .bne b1 => Sys2Proof.Machine.execBne b1 s
  | .cmpIzy b1 => Sys2Proof.Machine.execCmpIzy b1 s
  | .illegalD2 => Sys2Proof.Machine.execIllegalD2 s
  | .dcpIzy b1 => Sys2Proof.Machine.execDcpIzy b1 s
  | .nopD4 b1 => Sys2Proof.Machine.execNopD4 b1 s
  | .cmpZpx b1 => Sys2Proof.Machine.execCmpZpx b1 s
  | .decZpx b1 => Sys2Proof.Machine.execDecZpx b1 s
  | .dcpZpx b1 => Sys2Proof.Machine.execDcpZpx b1 s
  | .cld => Sys2Proof.Machine.execCld s
  | .cmpAby addr => Sys2Proof.Machine.execCmpAby addr s
  | .nopDA => Sys2Proof.Machine.execNopDA s
  | .dcpAby addr => Sys2Proof.Machine.execDcpAby addr s
  | .nopDC addr => Sys2Proof.Machine.execNopDC addr s
  | .cmpAbx addr => Sys2Proof.Machine.execCmpAbx addr s
  | .decAbx addr => Sys2Proof.Machine.execDecAbx addr s
  | .dcpAbx addr => Sys2Proof.Machine.execDcpAbx addr s
  | .cpxImm b1 => Sys2Proof.Machine.execCpxImm b1 s
  | .sbcIzx b1 => Sys2Proof.Machine.execSbcIzx b1 s
  | .nopE2 b1 => Sys2Proof.Machine.execNopE2 b1 s
  | .isbIzx b1 => Sys2Proof.Machine.execIsbIzx b1 s
  | .cpxZp b1 => Sys2Proof.Machine.execCpxZp b1 s
  | .sbcZp b1 => Sys2Proof.Machine.execSbcZp b1 s
  | .incZp b1 => Sys2Proof.Machine.execIncZp b1 s
  | .isbZp b1 => Sys2Proof.Machine.execIsbZp b1 s
  | .inx => Sys2Proof.Machine.execInx s
  | .sbcImm b1 => Sys2Proof.Machine.execSbcImm b1 s
  | .nop => Sys2Proof.Machine.execNop s
  | .sbcImmEB b1 => Sys2Proof.Machine.execSbcImmEB b1 s
  | .cpxAbs addr => Sys2Proof.Machine.execCpxAbs addr s
  | .sbcAbs addr => Sys2Proof.Machine.execSbcAbs addr s
  | .incAbs addr => Sys2Proof.Machine.execIncAbs addr s
  | .isbAbs addr => Sys2Proof.Machine.execIsbAbs addr s
  | .beq b1 => Sys2Proof.Machine.execBeq b1 s
  | .sbcIzy b1 => Sys2Proof.Machine.execSbcIzy b1 s
  | .illegalF2 => Sys2Proof.Machine.execIllegalF2 s
  | .isbIzy b1 => Sys2Proof.Machine.execIsbIzy b1 s
  | .nopF4 b1 => Sys2Proof.Machine.execNopF4 b1 s
  | .sbcZpx b1 => Sys2Proof.Machine.execSbcZpx b1 s
  | .incZpx b1 => Sys2Proof.Machine.execIncZpx b1 s
  | .isbZpx b1 => Sys2Proof.Machine.execIsbZpx b1 s
  | .sed => Sys2Proof.Machine.execSed s
  | .sbcAby addr => Sys2Proof.Machine.execSbcAby addr s
  | .nopFA => Sys2Proof.Machine.execNopFA s
  | .isbAby addr => Sys2Proof.Machine.execIsbAby addr s
  | .nopFC addr => Sys2Proof.Machine.execNopFC addr s
  | .sbcAbx addr => Sys2Proof.Machine.execSbcAbx addr s
  | .incAbx addr => Sys2Proof.Machine.execIncAbx addr s
  | .isbAbx addr => Sys2Proof.Machine.execIsbAbx addr s

end Sys2Proof.Machine
end

