-- ==== Sys2Proof/WellFormed.lean ====
section
/-! DEFINITION. The one check on an instruction: it has a descriptor (40_execute_and_addressing.md R102). The 25 refused bytes
of 30_encoding.md R90 have none. No operand value is illegal (R92): the fields of `Instr` have exactly the widths of R86. -/

namespace Sys2Proof

/-- The instruction's opcode byte has a descriptor (R102): it is none of the 25 refused bytes of R90. -/
def Instr.wellFormed (i : Instr) : Bool :=
  match i with
  | .brk => true
  | .oraIzx _ => true
  | .illegal02 => false
  | .sloIzx _ => true
  | .nop04 _ => true
  | .oraZp _ => true
  | .aslZp _ => true
  | .sloZp _ => true
  | .php => true
  | .oraImm _ => true
  | .aslAcc => true
  | .illegal0B => false
  | .nop0C _ => true
  | .oraAbs _ => true
  | .aslAbs _ => true
  | .sloAbs _ => true
  | .bpl _ => true
  | .oraIzy _ => true
  | .illegal12 => false
  | .sloIzy _ => true
  | .nop14 _ => true
  | .oraZpx _ => true
  | .aslZpx _ => true
  | .sloZpx _ => true
  | .clc => true
  | .oraAby _ => true
  | .nop1A => true
  | .sloAby _ => true
  | .nop1C _ => true
  | .oraAbx _ => true
  | .aslAbx _ => true
  | .sloAbx _ => true
  | .jsr _ => true
  | .andIzx _ => true
  | .illegal22 => false
  | .rlaIzx _ => true
  | .bitZp _ => true
  | .andZp _ => true
  | .rolZp _ => true
  | .rlaZp _ => true
  | .plp => true
  | .andImm _ => true
  | .rolAcc => true
  | .illegal2B => false
  | .bitAbs _ => true
  | .andAbs _ => true
  | .rolAbs _ => true
  | .rlaAbs _ => true
  | .bmi _ => true
  | .andIzy _ => true
  | .illegal32 => false
  | .rlaIzy _ => true
  | .nop34 _ => true
  | .andZpx _ => true
  | .rolZpx _ => true
  | .rlaZpx _ => true
  | .sec => true
  | .andAby _ => true
  | .nop3A => true
  | .rlaAby _ => true
  | .nop3C _ => true
  | .andAbx _ => true
  | .rolAbx _ => true
  | .rlaAbx _ => true
  | .rti => true
  | .eorIzx _ => true
  | .illegal42 => false
  | .sreIzx _ => true
  | .nop44 _ => true
  | .eorZp _ => true
  | .lsrZp _ => true
  | .sreZp _ => true
  | .pha => true
  | .eorImm _ => true
  | .lsrAcc => true
  | .illegal4B => false
  | .jmpAbs _ => true
  | .eorAbs _ => true
  | .lsrAbs _ => true
  | .sreAbs _ => true
  | .bvc _ => true
  | .eorIzy _ => true
  | .illegal52 => false
  | .sreIzy _ => true
  | .nop54 _ => true
  | .eorZpx _ => true
  | .lsrZpx _ => true
  | .sreZpx _ => true
  | .cli => true
  | .eorAby _ => true
  | .nop5A => true
  | .sreAby _ => true
  | .nop5C _ => true
  | .eorAbx _ => true
  | .lsrAbx _ => true
  | .sreAbx _ => true
  | .rts => true
  | .adcIzx _ => true
  | .illegal62 => false
  | .rraIzx _ => true
  | .nop64 _ => true
  | .adcZp _ => true
  | .rorZp _ => true
  | .rraZp _ => true
  | .pla => true
  | .adcImm _ => true
  | .rorAcc => true
  | .illegal6B => false
  | .jmpInd _ => true
  | .adcAbs _ => true
  | .rorAbs _ => true
  | .rraAbs _ => true
  | .bvs _ => true
  | .adcIzy _ => true
  | .illegal72 => false
  | .rraIzy _ => true
  | .nop74 _ => true
  | .adcZpx _ => true
  | .rorZpx _ => true
  | .rraZpx _ => true
  | .sei => true
  | .adcAby _ => true
  | .nop7A => true
  | .rraAby _ => true
  | .nop7C _ => true
  | .adcAbx _ => true
  | .rorAbx _ => true
  | .rraAbx _ => true
  | .nop80 _ => true
  | .staIzx _ => true
  | .nop82 _ => true
  | .saxIzx _ => true
  | .styZp _ => true
  | .staZp _ => true
  | .stxZp _ => true
  | .saxZp _ => true
  | .dey => true
  | .nop89 _ => true
  | .txa => true
  | .illegal8B => false
  | .styAbs _ => true
  | .staAbs _ => true
  | .stxAbs _ => true
  | .saxAbs _ => true
  | .bcc _ => true
  | .staIzy _ => true
  | .illegal92 => false
  | .illegal93 => false
  | .styZpx _ => true
  | .staZpx _ => true
  | .stxZpy _ => true
  | .saxZpy _ => true
  | .tya => true
  | .staAby _ => true
  | .txs => true
  | .illegal9B => false
  | .illegal9C => false
  | .staAbx _ => true
  | .illegal9E => false
  | .illegal9F => false
  | .ldyImm _ => true
  | .ldaIzx _ => true
  | .ldxImm _ => true
  | .laxIzx _ => true
  | .ldyZp _ => true
  | .ldaZp _ => true
  | .ldxZp _ => true
  | .laxZp _ => true
  | .tay => true
  | .ldaImm _ => true
  | .tax => true
  | .illegalAB => false
  | .ldyAbs _ => true
  | .ldaAbs _ => true
  | .ldxAbs _ => true
  | .laxAbs _ => true
  | .bcs _ => true
  | .ldaIzy _ => true
  | .illegalB2 => false
  | .laxIzy _ => true
  | .ldyZpx _ => true
  | .ldaZpx _ => true
  | .ldxZpy _ => true
  | .laxZpy _ => true
  | .clv => true
  | .ldaAby _ => true
  | .tsx => true
  | .illegalBB => false
  | .ldyAbx _ => true
  | .ldaAbx _ => true
  | .ldxAby _ => true
  | .laxAby _ => true
  | .cpyImm _ => true
  | .cmpIzx _ => true
  | .nopC2 _ => true
  | .dcpIzx _ => true
  | .cpyZp _ => true
  | .cmpZp _ => true
  | .decZp _ => true
  | .dcpZp _ => true
  | .iny => true
  | .cmpImm _ => true
  | .dex => true
  | .illegalCB => false
  | .cpyAbs _ => true
  | .cmpAbs _ => true
  | .decAbs _ => true
  | .dcpAbs _ => true
  | .bne _ => true
  | .cmpIzy _ => true
  | .illegalD2 => false
  | .dcpIzy _ => true
  | .nopD4 _ => true
  | .cmpZpx _ => true
  | .decZpx _ => true
  | .dcpZpx _ => true
  | .cld => true
  | .cmpAby _ => true
  | .nopDA => true
  | .dcpAby _ => true
  | .nopDC _ => true
  | .cmpAbx _ => true
  | .decAbx _ => true
  | .dcpAbx _ => true
  | .cpxImm _ => true
  | .sbcIzx _ => true
  | .nopE2 _ => true
  | .isbIzx _ => true
  | .cpxZp _ => true
  | .sbcZp _ => true
  | .incZp _ => true
  | .isbZp _ => true
  | .inx => true
  | .sbcImm _ => true
  | .nop => true
  | .sbcImmEB _ => true
  | .cpxAbs _ => true
  | .sbcAbs _ => true
  | .incAbs _ => true
  | .isbAbs _ => true
  | .beq _ => true
  | .sbcIzy _ => true
  | .illegalF2 => false
  | .isbIzy _ => true
  | .nopF4 _ => true
  | .sbcZpx _ => true
  | .incZpx _ => true
  | .isbZpx _ => true
  | .sed => true
  | .sbcAby _ => true
  | .nopFA => true
  | .isbAby _ => true
  | .nopFC _ => true
  | .sbcAbx _ => true
  | .incAbx _ => true
  | .isbAbx _ => true

end Sys2Proof
end

