-- ==== Sys2Proof/Decode.lean ====
section
/-! DEFINITION. The decoder, total on every byte string, and after it the encoder. The opcode byte alone fixes the instruction
and its length (30_encoding.md R85); the rows below are the opcode map of R88, one definition per high nibble. -/

namespace Sys2Proof

/-- What an opcode byte selects: an instruction of one byte, or a constructor still waiting for its operand (R86, R87). -/
inductive Shape where
  /-- Format F1: no operand byte. -/
  | op0 (i : Instr)
  /-- Format F2: the operand byte `b1`. -/
  | op1 (f : Byte → Instr)
  /-- Format F3: the operand `(b2, b1)`, little-endian. -/
  | op2 (f : Word → Instr)

/-- Why bytes are no instruction. The 25 refused opcodes do decode, to their own constructors, whose meaning is the fault of R90. -/
inductive DecodeError where
  /-- The byte string is empty. -/
  | noOpcode
  /-- The byte string ends before the last operand byte. -/
  | truncated
  deriving DecidableEq, Repr

/-- Row 0x of the opcode map (R88); `lo` is the low nibble. -/
def opcodeRow0 (lo : Nat) : Shape :=
  match lo with
  | 0 => .op0 .brk
  | 1 => .op1 .oraIzx
  | 2 => .op0 .illegal02
  | 3 => .op1 .sloIzx
  | 4 => .op1 .nop04
  | 5 => .op1 .oraZp
  | 6 => .op1 .aslZp
  | 7 => .op1 .sloZp
  | 8 => .op0 .php
  | 9 => .op1 .oraImm
  | 10 => .op0 .aslAcc
  | 11 => .op0 .illegal0B
  | 12 => .op2 .nop0C
  | 13 => .op2 .oraAbs
  | 14 => .op2 .aslAbs
  | _ => .op2 .sloAbs

/-- Row 1x of the opcode map (R88); `lo` is the low nibble. -/
def opcodeRow1 (lo : Nat) : Shape :=
  match lo with
  | 0 => .op1 .bpl
  | 1 => .op1 .oraIzy
  | 2 => .op0 .illegal12
  | 3 => .op1 .sloIzy
  | 4 => .op1 .nop14
  | 5 => .op1 .oraZpx
  | 6 => .op1 .aslZpx
  | 7 => .op1 .sloZpx
  | 8 => .op0 .clc
  | 9 => .op2 .oraAby
  | 10 => .op0 .nop1A
  | 11 => .op2 .sloAby
  | 12 => .op2 .nop1C
  | 13 => .op2 .oraAbx
  | 14 => .op2 .aslAbx
  | _ => .op2 .sloAbx

/-- Row 2x of the opcode map (R88); `lo` is the low nibble. -/
def opcodeRow2 (lo : Nat) : Shape :=
  match lo with
  | 0 => .op2 .jsr
  | 1 => .op1 .andIzx
  | 2 => .op0 .illegal22
  | 3 => .op1 .rlaIzx
  | 4 => .op1 .bitZp
  | 5 => .op1 .andZp
  | 6 => .op1 .rolZp
  | 7 => .op1 .rlaZp
  | 8 => .op0 .plp
  | 9 => .op1 .andImm
  | 10 => .op0 .rolAcc
  | 11 => .op0 .illegal2B
  | 12 => .op2 .bitAbs
  | 13 => .op2 .andAbs
  | 14 => .op2 .rolAbs
  | _ => .op2 .rlaAbs

/-- Row 3x of the opcode map (R88); `lo` is the low nibble. -/
def opcodeRow3 (lo : Nat) : Shape :=
  match lo with
  | 0 => .op1 .bmi
  | 1 => .op1 .andIzy
  | 2 => .op0 .illegal32
  | 3 => .op1 .rlaIzy
  | 4 => .op1 .nop34
  | 5 => .op1 .andZpx
  | 6 => .op1 .rolZpx
  | 7 => .op1 .rlaZpx
  | 8 => .op0 .sec
  | 9 => .op2 .andAby
  | 10 => .op0 .nop3A
  | 11 => .op2 .rlaAby
  | 12 => .op2 .nop3C
  | 13 => .op2 .andAbx
  | 14 => .op2 .rolAbx
  | _ => .op2 .rlaAbx

/-- Row 4x of the opcode map (R88); `lo` is the low nibble. -/
def opcodeRow4 (lo : Nat) : Shape :=
  match lo with
  | 0 => .op0 .rti
  | 1 => .op1 .eorIzx
  | 2 => .op0 .illegal42
  | 3 => .op1 .sreIzx
  | 4 => .op1 .nop44
  | 5 => .op1 .eorZp
  | 6 => .op1 .lsrZp
  | 7 => .op1 .sreZp
  | 8 => .op0 .pha
  | 9 => .op1 .eorImm
  | 10 => .op0 .lsrAcc
  | 11 => .op0 .illegal4B
  | 12 => .op2 .jmpAbs
  | 13 => .op2 .eorAbs
  | 14 => .op2 .lsrAbs
  | _ => .op2 .sreAbs

/-- Row 5x of the opcode map (R88); `lo` is the low nibble. -/
def opcodeRow5 (lo : Nat) : Shape :=
  match lo with
  | 0 => .op1 .bvc
  | 1 => .op1 .eorIzy
  | 2 => .op0 .illegal52
  | 3 => .op1 .sreIzy
  | 4 => .op1 .nop54
  | 5 => .op1 .eorZpx
  | 6 => .op1 .lsrZpx
  | 7 => .op1 .sreZpx
  | 8 => .op0 .cli
  | 9 => .op2 .eorAby
  | 10 => .op0 .nop5A
  | 11 => .op2 .sreAby
  | 12 => .op2 .nop5C
  | 13 => .op2 .eorAbx
  | 14 => .op2 .lsrAbx
  | _ => .op2 .sreAbx

/-- Row 6x of the opcode map (R88); `lo` is the low nibble. -/
def opcodeRow6 (lo : Nat) : Shape :=
  match lo with
  | 0 => .op0 .rts
  | 1 => .op1 .adcIzx
  | 2 => .op0 .illegal62
  | 3 => .op1 .rraIzx
  | 4 => .op1 .nop64
  | 5 => .op1 .adcZp
  | 6 => .op1 .rorZp
  | 7 => .op1 .rraZp
  | 8 => .op0 .pla
  | 9 => .op1 .adcImm
  | 10 => .op0 .rorAcc
  | 11 => .op0 .illegal6B
  | 12 => .op2 .jmpInd
  | 13 => .op2 .adcAbs
  | 14 => .op2 .rorAbs
  | _ => .op2 .rraAbs

/-- Row 7x of the opcode map (R88); `lo` is the low nibble. -/
def opcodeRow7 (lo : Nat) : Shape :=
  match lo with
  | 0 => .op1 .bvs
  | 1 => .op1 .adcIzy
  | 2 => .op0 .illegal72
  | 3 => .op1 .rraIzy
  | 4 => .op1 .nop74
  | 5 => .op1 .adcZpx
  | 6 => .op1 .rorZpx
  | 7 => .op1 .rraZpx
  | 8 => .op0 .sei
  | 9 => .op2 .adcAby
  | 10 => .op0 .nop7A
  | 11 => .op2 .rraAby
  | 12 => .op2 .nop7C
  | 13 => .op2 .adcAbx
  | 14 => .op2 .rorAbx
  | _ => .op2 .rraAbx

/-- Row 8x of the opcode map (R88); `lo` is the low nibble. -/
def opcodeRow8 (lo : Nat) : Shape :=
  match lo with
  | 0 => .op1 .nop80
  | 1 => .op1 .staIzx
  | 2 => .op1 .nop82
  | 3 => .op1 .saxIzx
  | 4 => .op1 .styZp
  | 5 => .op1 .staZp
  | 6 => .op1 .stxZp
  | 7 => .op1 .saxZp
  | 8 => .op0 .dey
  | 9 => .op1 .nop89
  | 10 => .op0 .txa
  | 11 => .op0 .illegal8B
  | 12 => .op2 .styAbs
  | 13 => .op2 .staAbs
  | 14 => .op2 .stxAbs
  | _ => .op2 .saxAbs

/-- Row 9x of the opcode map (R88); `lo` is the low nibble. -/
def opcodeRow9 (lo : Nat) : Shape :=
  match lo with
  | 0 => .op1 .bcc
  | 1 => .op1 .staIzy
  | 2 => .op0 .illegal92
  | 3 => .op0 .illegal93
  | 4 => .op1 .styZpx
  | 5 => .op1 .staZpx
  | 6 => .op1 .stxZpy
  | 7 => .op1 .saxZpy
  | 8 => .op0 .tya
  | 9 => .op2 .staAby
  | 10 => .op0 .txs
  | 11 => .op0 .illegal9B
  | 12 => .op0 .illegal9C
  | 13 => .op2 .staAbx
  | 14 => .op0 .illegal9E
  | _ => .op0 .illegal9F

/-- Row Ax of the opcode map (R88); `lo` is the low nibble. -/
def opcodeRowA (lo : Nat) : Shape :=
  match lo with
  | 0 => .op1 .ldyImm
  | 1 => .op1 .ldaIzx
  | 2 => .op1 .ldxImm
  | 3 => .op1 .laxIzx
  | 4 => .op1 .ldyZp
  | 5 => .op1 .ldaZp
  | 6 => .op1 .ldxZp
  | 7 => .op1 .laxZp
  | 8 => .op0 .tay
  | 9 => .op1 .ldaImm
  | 10 => .op0 .tax
  | 11 => .op0 .illegalAB
  | 12 => .op2 .ldyAbs
  | 13 => .op2 .ldaAbs
  | 14 => .op2 .ldxAbs
  | _ => .op2 .laxAbs

/-- Row Bx of the opcode map (R88); `lo` is the low nibble. -/
def opcodeRowB (lo : Nat) : Shape :=
  match lo with
  | 0 => .op1 .bcs
  | 1 => .op1 .ldaIzy
  | 2 => .op0 .illegalB2
  | 3 => .op1 .laxIzy
  | 4 => .op1 .ldyZpx
  | 5 => .op1 .ldaZpx
  | 6 => .op1 .ldxZpy
  | 7 => .op1 .laxZpy
  | 8 => .op0 .clv
  | 9 => .op2 .ldaAby
  | 10 => .op0 .tsx
  | 11 => .op0 .illegalBB
  | 12 => .op2 .ldyAbx
  | 13 => .op2 .ldaAbx
  | 14 => .op2 .ldxAby
  | _ => .op2 .laxAby

/-- Row Cx of the opcode map (R88); `lo` is the low nibble. -/
def opcodeRowC (lo : Nat) : Shape :=
  match lo with
  | 0 => .op1 .cpyImm
  | 1 => .op1 .cmpIzx
  | 2 => .op1 .nopC2
  | 3 => .op1 .dcpIzx
  | 4 => .op1 .cpyZp
  | 5 => .op1 .cmpZp
  | 6 => .op1 .decZp
  | 7 => .op1 .dcpZp
  | 8 => .op0 .iny
  | 9 => .op1 .cmpImm
  | 10 => .op0 .dex
  | 11 => .op0 .illegalCB
  | 12 => .op2 .cpyAbs
  | 13 => .op2 .cmpAbs
  | 14 => .op2 .decAbs
  | _ => .op2 .dcpAbs

/-- Row Dx of the opcode map (R88); `lo` is the low nibble. -/
def opcodeRowD (lo : Nat) : Shape :=
  match lo with
  | 0 => .op1 .bne
  | 1 => .op1 .cmpIzy
  | 2 => .op0 .illegalD2
  | 3 => .op1 .dcpIzy
  | 4 => .op1 .nopD4
  | 5 => .op1 .cmpZpx
  | 6 => .op1 .decZpx
  | 7 => .op1 .dcpZpx
  | 8 => .op0 .cld
  | 9 => .op2 .cmpAby
  | 10 => .op0 .nopDA
  | 11 => .op2 .dcpAby
  | 12 => .op2 .nopDC
  | 13 => .op2 .cmpAbx
  | 14 => .op2 .decAbx
  | _ => .op2 .dcpAbx

/-- Row Ex of the opcode map (R88); `lo` is the low nibble. -/
def opcodeRowE (lo : Nat) : Shape :=
  match lo with
  | 0 => .op1 .cpxImm
  | 1 => .op1 .sbcIzx
  | 2 => .op1 .nopE2
  | 3 => .op1 .isbIzx
  | 4 => .op1 .cpxZp
  | 5 => .op1 .sbcZp
  | 6 => .op1 .incZp
  | 7 => .op1 .isbZp
  | 8 => .op0 .inx
  | 9 => .op1 .sbcImm
  | 10 => .op0 .nop
  | 11 => .op1 .sbcImmEB
  | 12 => .op2 .cpxAbs
  | 13 => .op2 .sbcAbs
  | 14 => .op2 .incAbs
  | _ => .op2 .isbAbs

/-- Row Fx of the opcode map (R88); `lo` is the low nibble. -/
def opcodeRowF (lo : Nat) : Shape :=
  match lo with
  | 0 => .op1 .beq
  | 1 => .op1 .sbcIzy
  | 2 => .op0 .illegalF2
  | 3 => .op1 .isbIzy
  | 4 => .op1 .nopF4
  | 5 => .op1 .sbcZpx
  | 6 => .op1 .incZpx
  | 7 => .op1 .isbZpx
  | 8 => .op0 .sed
  | 9 => .op2 .sbcAby
  | 10 => .op0 .nopFA
  | 11 => .op2 .isbAby
  | 12 => .op2 .nopFC
  | 13 => .op2 .sbcAbx
  | 14 => .op2 .incAbx
  | _ => .op2 .isbAbx

/-- The descriptor lookup of R102 as far as decoding needs it: a total function of the opcode byte (R92). -/
def shapeOf (opc : Byte) : Shape :=
  match opc.toNat / 16 with
  | 0 => opcodeRow0 (opc.toNat % 16)
  | 1 => opcodeRow1 (opc.toNat % 16)
  | 2 => opcodeRow2 (opc.toNat % 16)
  | 3 => opcodeRow3 (opc.toNat % 16)
  | 4 => opcodeRow4 (opc.toNat % 16)
  | 5 => opcodeRow5 (opc.toNat % 16)
  | 6 => opcodeRow6 (opc.toNat % 16)
  | 7 => opcodeRow7 (opc.toNat % 16)
  | 8 => opcodeRow8 (opc.toNat % 16)
  | 9 => opcodeRow9 (opc.toNat % 16)
  | 10 => opcodeRowA (opc.toNat % 16)
  | 11 => opcodeRowB (opc.toNat % 16)
  | 12 => opcodeRowC (opc.toNat % 16)
  | 13 => opcodeRowD (opc.toNat % 16)
  | 14 => opcodeRowE (opc.toNat % 16)
  | _ => opcodeRowF (opc.toNat % 16)

/-- The number of operand bytes after the opcode byte (R86). -/
def Shape.operandLength (sh : Shape) : Nat :=
  match sh with
  | .op0 _ => 0
  | .op1 _ => 1
  | .op2 _ => 2

/-- Decode one instruction from the front of a byte string, and return what follows it (R85, R87, R92). -/
def decode (bs : List Byte) : Except DecodeError (Instr × List Byte) :=
  match bs with
  | [] => .error .noOpcode
  | opc :: rest =>
    match shapeOf opc with
    | .op0 i => .ok (i, rest)
    | .op1 f =>
      match rest with
      | b1 :: rest' => .ok (f b1, rest')
      | [] => .error .truncated
    | .op2 f =>
      match rest with
      | b1 :: b2 :: rest' => .ok (f (Machine.mk16 b2 b1), rest')
      | _ => .error .truncated

/-- The instruction whose bits, numbered from the low bit of the opcode byte, are the low `nbits` bits of `w`, every later bit 0.
The opcode byte lies at the lowest address, then `b1`, then `b2` (R86). -/
def decodeTableWord (nbits w : Nat) : Option Instr :=
  match decode (Machine.bytesOfNat 3 (w % 2 ^ nbits)) with
  | .ok (i, _) => some i
  | .error _ => none

/-- The bytes of an instruction in address order (R86, R88). -/
def encode (i : Instr) : List Byte :=
  match i with
  | .brk => [0x00]
  | .oraIzx b1 => [0x01, b1]
  | .illegal02 => [0x02]
  | .sloIzx b1 => [0x03, b1]
  | .nop04 b1 => [0x04, b1]
  | .oraZp b1 => [0x05, b1]
  | .aslZp b1 => [0x06, b1]
  | .sloZp b1 => [0x07, b1]
  | .php => [0x08]
  | .oraImm b1 => [0x09, b1]
  | .aslAcc => [0x0A]
  | .illegal0B => [0x0B]
  | .nop0C addr => [0x0C, Machine.loByte addr, Machine.hiByte addr]
  | .oraAbs addr => [0x0D, Machine.loByte addr, Machine.hiByte addr]
  | .aslAbs addr => [0x0E, Machine.loByte addr, Machine.hiByte addr]
  | .sloAbs addr => [0x0F, Machine.loByte addr, Machine.hiByte addr]
  | .bpl b1 => [0x10, b1]
  | .oraIzy b1 => [0x11, b1]
  | .illegal12 => [0x12]
  | .sloIzy b1 => [0x13, b1]
  | .nop14 b1 => [0x14, b1]
  | .oraZpx b1 => [0x15, b1]
  | .aslZpx b1 => [0x16, b1]
  | .sloZpx b1 => [0x17, b1]
  | .clc => [0x18]
  | .oraAby addr => [0x19, Machine.loByte addr, Machine.hiByte addr]
  | .nop1A => [0x1A]
  | .sloAby addr => [0x1B, Machine.loByte addr, Machine.hiByte addr]
  | .nop1C addr => [0x1C, Machine.loByte addr, Machine.hiByte addr]
  | .oraAbx addr => [0x1D, Machine.loByte addr, Machine.hiByte addr]
  | .aslAbx addr => [0x1E, Machine.loByte addr, Machine.hiByte addr]
  | .sloAbx addr => [0x1F, Machine.loByte addr, Machine.hiByte addr]
  | .jsr addr => [0x20, Machine.loByte addr, Machine.hiByte addr]
  | .andIzx b1 => [0x21, b1]
  | .illegal22 => [0x22]
  | .rlaIzx b1 => [0x23, b1]
  | .bitZp b1 => [0x24, b1]
  | .andZp b1 => [0x25, b1]
  | .rolZp b1 => [0x26, b1]
  | .rlaZp b1 => [0x27, b1]
  | .plp => [0x28]
  | .andImm b1 => [0x29, b1]
  | .rolAcc => [0x2A]
  | .illegal2B => [0x2B]
  | .bitAbs addr => [0x2C, Machine.loByte addr, Machine.hiByte addr]
  | .andAbs addr => [0x2D, Machine.loByte addr, Machine.hiByte addr]
  | .rolAbs addr => [0x2E, Machine.loByte addr, Machine.hiByte addr]
  | .rlaAbs addr => [0x2F, Machine.loByte addr, Machine.hiByte addr]
  | .bmi b1 => [0x30, b1]
  | .andIzy b1 => [0x31, b1]
  | .illegal32 => [0x32]
  | .rlaIzy b1 => [0x33, b1]
  | .nop34 b1 => [0x34, b1]
  | .andZpx b1 => [0x35, b1]
  | .rolZpx b1 => [0x36, b1]
  | .rlaZpx b1 => [0x37, b1]
  | .sec => [0x38]
  | .andAby addr => [0x39, Machine.loByte addr, Machine.hiByte addr]
  | .nop3A => [0x3A]
  | .rlaAby addr => [0x3B, Machine.loByte addr, Machine.hiByte addr]
  | .nop3C addr => [0x3C, Machine.loByte addr, Machine.hiByte addr]
  | .andAbx addr => [0x3D, Machine.loByte addr, Machine.hiByte addr]
  | .rolAbx addr => [0x3E, Machine.loByte addr, Machine.hiByte addr]
  | .rlaAbx addr => [0x3F, Machine.loByte addr, Machine.hiByte addr]
  | .rti => [0x40]
  | .eorIzx b1 => [0x41, b1]
  | .illegal42 => [0x42]
  | .sreIzx b1 => [0x43, b1]
  | .nop44 b1 => [0x44, b1]
  | .eorZp b1 => [0x45, b1]
  | .lsrZp b1 => [0x46, b1]
  | .sreZp b1 => [0x47, b1]
  | .pha => [0x48]
  | .eorImm b1 => [0x49, b1]
  | .lsrAcc => [0x4A]
  | .illegal4B => [0x4B]
  | .jmpAbs addr => [0x4C, Machine.loByte addr, Machine.hiByte addr]
  | .eorAbs addr => [0x4D, Machine.loByte addr, Machine.hiByte addr]
  | .lsrAbs addr => [0x4E, Machine.loByte addr, Machine.hiByte addr]
  | .sreAbs addr => [0x4F, Machine.loByte addr, Machine.hiByte addr]
  | .bvc b1 => [0x50, b1]
  | .eorIzy b1 => [0x51, b1]
  | .illegal52 => [0x52]
  | .sreIzy b1 => [0x53, b1]
  | .nop54 b1 => [0x54, b1]
  | .eorZpx b1 => [0x55, b1]
  | .lsrZpx b1 => [0x56, b1]
  | .sreZpx b1 => [0x57, b1]
  | .cli => [0x58]
  | .eorAby addr => [0x59, Machine.loByte addr, Machine.hiByte addr]
  | .nop5A => [0x5A]
  | .sreAby addr => [0x5B, Machine.loByte addr, Machine.hiByte addr]
  | .nop5C addr => [0x5C, Machine.loByte addr, Machine.hiByte addr]
  | .eorAbx addr => [0x5D, Machine.loByte addr, Machine.hiByte addr]
  | .lsrAbx addr => [0x5E, Machine.loByte addr, Machine.hiByte addr]
  | .sreAbx addr => [0x5F, Machine.loByte addr, Machine.hiByte addr]
  | .rts => [0x60]
  | .adcIzx b1 => [0x61, b1]
  | .illegal62 => [0x62]
  | .rraIzx b1 => [0x63, b1]
  | .nop64 b1 => [0x64, b1]
  | .adcZp b1 => [0x65, b1]
  | .rorZp b1 => [0x66, b1]
  | .rraZp b1 => [0x67, b1]
  | .pla => [0x68]
  | .adcImm b1 => [0x69, b1]
  | .rorAcc => [0x6A]
  | .illegal6B => [0x6B]
  | .jmpInd addr => [0x6C, Machine.loByte addr, Machine.hiByte addr]
  | .adcAbs addr => [0x6D, Machine.loByte addr, Machine.hiByte addr]
  | .rorAbs addr => [0x6E, Machine.loByte addr, Machine.hiByte addr]
  | .rraAbs addr => [0x6F, Machine.loByte addr, Machine.hiByte addr]
  | .bvs b1 => [0x70, b1]
  | .adcIzy b1 => [0x71, b1]
  | .illegal72 => [0x72]
  | .rraIzy b1 => [0x73, b1]
  | .nop74 b1 => [0x74, b1]
  | .adcZpx b1 => [0x75, b1]
  | .rorZpx b1 => [0x76, b1]
  | .rraZpx b1 => [0x77, b1]
  | .sei => [0x78]
  | .adcAby addr => [0x79, Machine.loByte addr, Machine.hiByte addr]
  | .nop7A => [0x7A]
  | .rraAby addr => [0x7B, Machine.loByte addr, Machine.hiByte addr]
  | .nop7C addr => [0x7C, Machine.loByte addr, Machine.hiByte addr]
  | .adcAbx addr => [0x7D, Machine.loByte addr, Machine.hiByte addr]
  | .rorAbx addr => [0x7E, Machine.loByte addr, Machine.hiByte addr]
  | .rraAbx addr => [0x7F, Machine.loByte addr, Machine.hiByte addr]
  | .nop80 b1 => [0x80, b1]
  | .staIzx b1 => [0x81, b1]
  | .nop82 b1 => [0x82, b1]
  | .saxIzx b1 => [0x83, b1]
  | .styZp b1 => [0x84, b1]
  | .staZp b1 => [0x85, b1]
  | .stxZp b1 => [0x86, b1]
  | .saxZp b1 => [0x87, b1]
  | .dey => [0x88]
  | .nop89 b1 => [0x89, b1]
  | .txa => [0x8A]
  | .illegal8B => [0x8B]
  | .styAbs addr => [0x8C, Machine.loByte addr, Machine.hiByte addr]
  | .staAbs addr => [0x8D, Machine.loByte addr, Machine.hiByte addr]
  | .stxAbs addr => [0x8E, Machine.loByte addr, Machine.hiByte addr]
  | .saxAbs addr => [0x8F, Machine.loByte addr, Machine.hiByte addr]
  | .bcc b1 => [0x90, b1]
  | .staIzy b1 => [0x91, b1]
  | .illegal92 => [0x92]
  | .illegal93 => [0x93]
  | .styZpx b1 => [0x94, b1]
  | .staZpx b1 => [0x95, b1]
  | .stxZpy b1 => [0x96, b1]
  | .saxZpy b1 => [0x97, b1]
  | .tya => [0x98]
  | .staAby addr => [0x99, Machine.loByte addr, Machine.hiByte addr]
  | .txs => [0x9A]
  | .illegal9B => [0x9B]
  | .illegal9C => [0x9C]
  | .staAbx addr => [0x9D, Machine.loByte addr, Machine.hiByte addr]
  | .illegal9E => [0x9E]
  | .illegal9F => [0x9F]
  | .ldyImm b1 => [0xA0, b1]
  | .ldaIzx b1 => [0xA1, b1]
  | .ldxImm b1 => [0xA2, b1]
  | .laxIzx b1 => [0xA3, b1]
  | .ldyZp b1 => [0xA4, b1]
  | .ldaZp b1 => [0xA5, b1]
  | .ldxZp b1 => [0xA6, b1]
  | .laxZp b1 => [0xA7, b1]
  | .tay => [0xA8]
  | .ldaImm b1 => [0xA9, b1]
  | .tax => [0xAA]
  | .illegalAB => [0xAB]
  | .ldyAbs addr => [0xAC, Machine.loByte addr, Machine.hiByte addr]
  | .ldaAbs addr => [0xAD, Machine.loByte addr, Machine.hiByte addr]
  | .ldxAbs addr => [0xAE, Machine.loByte addr, Machine.hiByte addr]
  | .laxAbs addr => [0xAF, Machine.loByte addr, Machine.hiByte addr]
  | .bcs b1 => [0xB0, b1]
  | .ldaIzy b1 => [0xB1, b1]
  | .illegalB2 => [0xB2]
  | .laxIzy b1 => [0xB3, b1]
  | .ldyZpx b1 => [0xB4, b1]
  | .ldaZpx b1 => [0xB5, b1]
  | .ldxZpy b1 => [0xB6, b1]
  | .laxZpy b1 => [0xB7, b1]
  | .clv => [0xB8]
  | .ldaAby addr => [0xB9, Machine.loByte addr, Machine.hiByte addr]
  | .tsx => [0xBA]
  | .illegalBB => [0xBB]
  | .ldyAbx addr => [0xBC, Machine.loByte addr, Machine.hiByte addr]
  | .ldaAbx addr => [0xBD, Machine.loByte addr, Machine.hiByte addr]
  | .ldxAby addr => [0xBE, Machine.loByte addr, Machine.hiByte addr]
  | .laxAby addr => [0xBF, Machine.loByte addr, Machine.hiByte addr]
  | .cpyImm b1 => [0xC0, b1]
  | .cmpIzx b1 => [0xC1, b1]
  | .nopC2 b1 => [0xC2, b1]
  | .dcpIzx b1 => [0xC3, b1]
  | .cpyZp b1 => [0xC4, b1]
  | .cmpZp b1 => [0xC5, b1]
  | .decZp b1 => [0xC6, b1]
  | .dcpZp b1 => [0xC7, b1]
  | .iny => [0xC8]
  | .cmpImm b1 => [0xC9, b1]
  | .dex => [0xCA]
  | .illegalCB => [0xCB]
  | .cpyAbs addr => [0xCC, Machine.loByte addr, Machine.hiByte addr]
  | .cmpAbs addr => [0xCD, Machine.loByte addr, Machine.hiByte addr]
  | .decAbs addr => [0xCE, Machine.loByte addr, Machine.hiByte addr]
  | .dcpAbs addr => [0xCF, Machine.loByte addr, Machine.hiByte addr]
  | .bne b1 => [0xD0, b1]
  | .cmpIzy b1 => [0xD1, b1]
  | .illegalD2 => [0xD2]
  | .dcpIzy b1 => [0xD3, b1]
  | .nopD4 b1 => [0xD4, b1]
  | .cmpZpx b1 => [0xD5, b1]
  | .decZpx b1 => [0xD6, b1]
  | .dcpZpx b1 => [0xD7, b1]
  | .cld => [0xD8]
  | .cmpAby addr => [0xD9, Machine.loByte addr, Machine.hiByte addr]
  | .nopDA => [0xDA]
  | .dcpAby addr => [0xDB, Machine.loByte addr, Machine.hiByte addr]
  | .nopDC addr => [0xDC, Machine.loByte addr, Machine.hiByte addr]
  | .cmpAbx addr => [0xDD, Machine.loByte addr, Machine.hiByte addr]
  | .decAbx addr => [0xDE, Machine.loByte addr, Machine.hiByte addr]
  | .dcpAbx addr => [0xDF, Machine.loByte addr, Machine.hiByte addr]
  | .cpxImm b1 => [0xE0, b1]
  | .sbcIzx b1 => [0xE1, b1]
  | .nopE2 b1 => [0xE2, b1]
  | .isbIzx b1 => [0xE3, b1]
  | .cpxZp b1 => [0xE4, b1]
  | .sbcZp b1 => [0xE5, b1]
  | .incZp b1 => [0xE6, b1]
  | .isbZp b1 => [0xE7, b1]
  | .inx => [0xE8]
  | .sbcImm b1 => [0xE9, b1]
  | .nop => [0xEA]
  | .sbcImmEB b1 => [0xEB, b1]
  | .cpxAbs addr => [0xEC, Machine.loByte addr, Machine.hiByte addr]
  | .sbcAbs addr => [0xED, Machine.loByte addr, Machine.hiByte addr]
  | .incAbs addr => [0xEE, Machine.loByte addr, Machine.hiByte addr]
  | .isbAbs addr => [0xEF, Machine.loByte addr, Machine.hiByte addr]
  | .beq b1 => [0xF0, b1]
  | .sbcIzy b1 => [0xF1, b1]
  | .illegalF2 => [0xF2]
  | .isbIzy b1 => [0xF3, b1]
  | .nopF4 b1 => [0xF4, b1]
  | .sbcZpx b1 => [0xF5, b1]
  | .incZpx b1 => [0xF6, b1]
  | .isbZpx b1 => [0xF7, b1]
  | .sed => [0xF8]
  | .sbcAby addr => [0xF9, Machine.loByte addr, Machine.hiByte addr]
  | .nopFA => [0xFA]
  | .isbAby addr => [0xFB, Machine.loByte addr, Machine.hiByte addr]
  | .nopFC addr => [0xFC, Machine.loByte addr, Machine.hiByte addr]
  | .sbcAbx addr => [0xFD, Machine.loByte addr, Machine.hiByte addr]
  | .incAbx addr => [0xFE, Machine.loByte addr, Machine.hiByte addr]
  | .isbAbx addr => [0xFF, Machine.loByte addr, Machine.hiByte addr]

/-- The words of row 0x of R88, written out: operand bytes `0x34`, then `0x12`. -/
theorem decode_words_row0 :
    decode [0x00] = .ok (.brk, []) ∧
    decode [0x01, 0x34] = .ok (.oraIzx 0x34, []) ∧
    decode [0x02] = .ok (.illegal02, []) ∧
    decode [0x03, 0x34] = .ok (.sloIzx 0x34, []) ∧
    decode [0x04, 0x34] = .ok (.nop04 0x34, []) ∧
    decode [0x05, 0x34] = .ok (.oraZp 0x34, []) ∧
    decode [0x06, 0x34] = .ok (.aslZp 0x34, []) ∧
    decode [0x07, 0x34] = .ok (.sloZp 0x34, []) ∧
    decode [0x08] = .ok (.php, []) ∧
    decode [0x09, 0x34] = .ok (.oraImm 0x34, []) ∧
    decode [0x0A] = .ok (.aslAcc, []) ∧
    decode [0x0B] = .ok (.illegal0B, []) ∧
    decode [0x0C, 0x34, 0x12] = .ok (.nop0C 0x1234, []) ∧
    decode [0x0D, 0x34, 0x12] = .ok (.oraAbs 0x1234, []) ∧
    decode [0x0E, 0x34, 0x12] = .ok (.aslAbs 0x1234, []) ∧
    decode [0x0F, 0x34, 0x12] = .ok (.sloAbs 0x1234, []) := by
  refine ⟨?_, ?_, ?_, ?_, ?_, ?_, ?_, ?_, ?_, ?_, ?_, ?_, ?_, ?_, ?_, ?_⟩ <;> rfl

/-- The words of row 1x of R88, written out: operand bytes `0x34`, then `0x12`. -/
theorem decode_words_row1 :
    decode [0x10, 0x34] = .ok (.bpl 0x34, []) ∧
    decode [0x11, 0x34] = .ok (.oraIzy 0x34, []) ∧
    decode [0x12] = .ok (.illegal12, []) ∧
    decode [0x13, 0x34] = .ok (.sloIzy 0x34, []) ∧
    decode [0x14, 0x34] = .ok (.nop14 0x34, []) ∧
    decode [0x15, 0x34] = .ok (.oraZpx 0x34, []) ∧
    decode [0x16, 0x34] = .ok (.aslZpx 0x34, []) ∧
    decode [0x17, 0x34] = .ok (.sloZpx 0x34, []) ∧
    decode [0x18] = .ok (.clc, []) ∧
    decode [0x19, 0x34, 0x12] = .ok (.oraAby 0x1234, []) ∧
    decode [0x1A] = .ok (.nop1A, []) ∧
    decode [0x1B, 0x34, 0x12] = .ok (.sloAby 0x1234, []) ∧
    decode [0x1C, 0x34, 0x12] = .ok (.nop1C 0x1234, []) ∧
    decode [0x1D, 0x34, 0x12] = .ok (.oraAbx 0x1234, []) ∧
    decode [0x1E, 0x34, 0x12] = .ok (.aslAbx 0x1234, []) ∧
    decode [0x1F, 0x34, 0x12] = .ok (.sloAbx 0x1234, []) := by
  refine ⟨?_, ?_, ?_, ?_, ?_, ?_, ?_, ?_, ?_, ?_, ?_, ?_, ?_, ?_, ?_, ?_⟩ <;> rfl

/-- The words of row 2x of R88, written out: operand bytes `0x34`, then `0x12`. -/
theorem decode_words_row2 :
    decode [0x20, 0x34, 0x12] = .ok (.jsr 0x1234, []) ∧
    decode [0x21, 0x34] = .ok (.andIzx 0x34, []) ∧
    decode [0x22] = .ok (.illegal22, []) ∧
    decode [0x23, 0x34] = .ok (.rlaIzx 0x34, []) ∧
    decode [0x24, 0x34] = .ok (.bitZp 0x34, []) ∧
    decode [0x25, 0x34] = .ok (.andZp 0x34, []) ∧
    decode [0x26, 0x34] = .ok (.rolZp 0x34, []) ∧
    decode [0x27, 0x34] = .ok (.rlaZp 0x34, []) ∧
    decode [0x28] = .ok (.plp, []) ∧
    decode [0x29, 0x34] = .ok (.andImm 0x34, []) ∧
    decode [0x2A] = .ok (.rolAcc, []) ∧
    decode [0x2B] = .ok (.illegal2B, []) ∧
    decode [0x2C, 0x34, 0x12] = .ok (.bitAbs 0x1234, []) ∧
    decode [0x2D, 0x34, 0x12] = .ok (.andAbs 0x1234, []) ∧
    decode [0x2E, 0x34, 0x12] = .ok (.rolAbs 0x1234, []) ∧
    decode [0x2F, 0x34, 0x12] = .ok (.rlaAbs 0x1234, []) := by
  refine ⟨?_, ?_, ?_, ?_, ?_, ?_, ?_, ?_, ?_, ?_, ?_, ?_, ?_, ?_, ?_, ?_⟩ <;> rfl

/-- The words of row 3x of R88, written out: operand bytes `0x34`, then `0x12`. -/
theorem decode_words_row3 :
    decode [0x30, 0x34] = .ok (.bmi 0x34, []) ∧
    decode [0x31, 0x34] = .ok (.andIzy 0x34, []) ∧
    decode [0x32] = .ok (.illegal32, []) ∧
    decode [0x33, 0x34] = .ok (.rlaIzy 0x34, []) ∧
    decode [0x34, 0x34] = .ok (.nop34 0x34, []) ∧
    decode [0x35, 0x34] = .ok (.andZpx 0x34, []) ∧
    decode [0x36, 0x34] = .ok (.rolZpx 0x34, []) ∧
    decode [0x37, 0x34] = .ok (.rlaZpx 0x34, []) ∧
    decode [0x38] = .ok (.sec, []) ∧
    decode [0x39, 0x34, 0x12] = .ok (.andAby 0x1234, []) ∧
    decode [0x3A] = .ok (.nop3A, []) ∧
    decode [0x3B, 0x34, 0x12] = .ok (.rlaAby 0x1234, []) ∧
    decode [0x3C, 0x34, 0x12] = .ok (.nop3C 0x1234, []) ∧
    decode [0x3D, 0x34, 0x12] = .ok (.andAbx 0x1234, []) ∧
    decode [0x3E, 0x34, 0x12] = .ok (.rolAbx 0x1234, []) ∧
    decode [0x3F, 0x34, 0x12] = .ok (.rlaAbx 0x1234, []) := by
  refine ⟨?_, ?_, ?_, ?_, ?_, ?_, ?_, ?_, ?_, ?_, ?_, ?_, ?_, ?_, ?_, ?_⟩ <;> rfl

/-- The words of row 4x of R88, written out: operand bytes `0x34`, then `0x12`. -/
theorem decode_words_row4 :
    decode [0x40] = .ok (.rti, []) ∧
    decode [0x41, 0x34] = .ok (.eorIzx 0x34, []) ∧
    decode [0x42] = .ok (.illegal42, []) ∧
    decode [0x43, 0x34] = .ok (.sreIzx 0x34, []) ∧
    decode [0x44, 0x34] = .ok (.nop44 0x34, []) ∧
    decode [0x45, 0x34] = .ok (.eorZp 0x34, []) ∧
    decode [0x46, 0x34] = .ok (.lsrZp 0x34, []) ∧
    decode [0x47, 0x34] = .ok (.sreZp 0x34, []) ∧
    decode [0x48] = .ok (.pha, []) ∧
    decode [0x49, 0x34] = .ok (.eorImm 0x34, []) ∧
    decode [0x4A] = .ok (.lsrAcc, []) ∧
    decode [0x4B] = .ok (.illegal4B, []) ∧
    decode [0x4C, 0x34, 0x12] = .ok (.jmpAbs 0x1234, []) ∧
    decode [0x4D, 0x34, 0x12] = .ok (.eorAbs 0x1234, []) ∧
    decode [0x4E, 0x34, 0x12] = .ok (.lsrAbs 0x1234, []) ∧
    decode [0x4F, 0x34, 0x12] = .ok (.sreAbs 0x1234, []) := by
  refine ⟨?_, ?_, ?_, ?_, ?_, ?_, ?_, ?_, ?_, ?_, ?_, ?_, ?_, ?_, ?_, ?_⟩ <;> rfl

/-- The words of row 5x of R88, written out: operand bytes `0x34`, then `0x12`. -/
theorem decode_words_row5 :
    decode [0x50, 0x34] = .ok (.bvc 0x34, []) ∧
    decode [0x51, 0x34] = .ok (.eorIzy 0x34, []) ∧
    decode [0x52] = .ok (.illegal52, []) ∧
    decode [0x53, 0x34] = .ok (.sreIzy 0x34, []) ∧
    decode [0x54, 0x34] = .ok (.nop54 0x34, []) ∧
    decode [0x55, 0x34] = .ok (.eorZpx 0x34, []) ∧
    decode [0x56, 0x34] = .ok (.lsrZpx 0x34, []) ∧
    decode [0x57, 0x34] = .ok (.sreZpx 0x34, []) ∧
    decode [0x58] = .ok (.cli, []) ∧
    decode [0x59, 0x34, 0x12] = .ok (.eorAby 0x1234, []) ∧
    decode [0x5A] = .ok (.nop5A, []) ∧
    decode [0x5B, 0x34, 0x12] = .ok (.sreAby 0x1234, []) ∧
    decode [0x5C, 0x34, 0x12] = .ok (.nop5C 0x1234, []) ∧
    decode [0x5D, 0x34, 0x12] = .ok (.eorAbx 0x1234, []) ∧
    decode [0x5E, 0x34, 0x12] = .ok (.lsrAbx 0x1234, []) ∧
    decode [0x5F, 0x34, 0x12] = .ok (.sreAbx 0x1234, []) := by
  refine ⟨?_, ?_, ?_, ?_, ?_, ?_, ?_, ?_, ?_, ?_, ?_, ?_, ?_, ?_, ?_, ?_⟩ <;> rfl

/-- The words of row 6x of R88, written out: operand bytes `0x34`, then `0x12`. -/
theorem decode_words_row6 :
    decode [0x60] = .ok (.rts, []) ∧
    decode [0x61, 0x34] = .ok (.adcIzx 0x34, []) ∧
    decode [0x62] = .ok (.illegal62, []) ∧
    decode [0x63, 0x34] = .ok (.rraIzx 0x34, []) ∧
    decode [0x64, 0x34] = .ok (.nop64 0x34, []) ∧
    decode [0x65, 0x34] = .ok (.adcZp 0x34, []) ∧
    decode [0x66, 0x34] = .ok (.rorZp 0x34, []) ∧
    decode [0x67, 0x34] = .ok (.rraZp 0x34, []) ∧
    decode [0x68] = .ok (.pla, []) ∧
    decode [0x69, 0x34] = .ok (.adcImm 0x34, []) ∧
    decode [0x6A] = .ok (.rorAcc, []) ∧
    decode [0x6B] = .ok (.illegal6B, []) ∧
    decode [0x6C, 0x34, 0x12] = .ok (.jmpInd 0x1234, []) ∧
    decode [0x6D, 0x34, 0x12] = .ok (.adcAbs 0x1234, []) ∧
    decode [0x6E, 0x34, 0x12] = .ok (.rorAbs 0x1234, []) ∧
    decode [0x6F, 0x34, 0x12] = .ok (.rraAbs 0x1234, []) := by
  refine ⟨?_, ?_, ?_, ?_, ?_, ?_, ?_, ?_, ?_, ?_, ?_, ?_, ?_, ?_, ?_, ?_⟩ <;> rfl

/-- The words of row 7x of R88, written out: operand bytes `0x34`, then `0x12`. -/
theorem decode_words_row7 :
    decode [0x70, 0x34] = .ok (.bvs 0x34, []) ∧
    decode [0x71, 0x34] = .ok (.adcIzy 0x34, []) ∧
    decode [0x72] = .ok (.illegal72, []) ∧
    decode [0x73, 0x34] = .ok (.rraIzy 0x34, []) ∧
    decode [0x74, 0x34] = .ok (.nop74 0x34, []) ∧
    decode [0x75, 0x34] = .ok (.adcZpx 0x34, []) ∧
    decode [0x76, 0x34] = .ok (.rorZpx 0x34, []) ∧
    decode [0x77, 0x34] = .ok (.rraZpx 0x34, []) ∧
    decode [0x78] = .ok (.sei, []) ∧
    decode [0x79, 0x34, 0x12] = .ok (.adcAby 0x1234, []) ∧
    decode [0x7A] = .ok (.nop7A, []) ∧
    decode [0x7B, 0x34, 0x12] = .ok (.rraAby 0x1234, []) ∧
    decode [0x7C, 0x34, 0x12] = .ok (.nop7C 0x1234, []) ∧
    decode [0x7D, 0x34, 0x12] = .ok (.adcAbx 0x1234, []) ∧
    decode [0x7E, 0x34, 0x12] = .ok (.rorAbx 0x1234, []) ∧
    decode [0x7F, 0x34, 0x12] = .ok (.rraAbx 0x1234, []) := by
  refine ⟨?_, ?_, ?_, ?_, ?_, ?_, ?_, ?_, ?_, ?_, ?_, ?_, ?_, ?_, ?_, ?_⟩ <;> rfl

/-- The words of row 8x of R88, written out: operand bytes `0x34`, then `0x12`. -/
theorem decode_words_row8 :
    decode [0x80, 0x34] = .ok (.nop80 0x34, []) ∧
    decode [0x81, 0x34] = .ok (.staIzx 0x34, []) ∧
    decode [0x82, 0x34] = .ok (.nop82 0x34, []) ∧
    decode [0x83, 0x34] = .ok (.saxIzx 0x34, []) ∧
    decode [0x84, 0x34] = .ok (.styZp 0x34, []) ∧
    decode [0x85, 0x34] = .ok (.staZp 0x34, []) ∧
    decode [0x86, 0x34] = .ok (.stxZp 0x34, []) ∧
    decode [0x87, 0x34] = .ok (.saxZp 0x34, []) ∧
    decode [0x88] = .ok (.dey, []) ∧
    decode [0x89, 0x34] = .ok (.nop89 0x34, []) ∧
    decode [0x8A] = .ok (.txa, []) ∧
    decode [0x8B] = .ok (.illegal8B, []) ∧
    decode [0x8C, 0x34, 0x12] = .ok (.styAbs 0x1234, []) ∧
    decode [0x8D, 0x34, 0x12] = .ok (.staAbs 0x1234, []) ∧
    decode [0x8E, 0x34, 0x12] = .ok (.stxAbs 0x1234, []) ∧
    decode [0x8F, 0x34, 0x12] = .ok (.saxAbs 0x1234, []) := by
  refine ⟨?_, ?_, ?_, ?_, ?_, ?_, ?_, ?_, ?_, ?_, ?_, ?_, ?_, ?_, ?_, ?_⟩ <;> rfl

/-- The words of row 9x of R88, written out: operand bytes `0x34`, then `0x12`. -/
theorem decode_words_row9 :
    decode [0x90, 0x34] = .ok (.bcc 0x34, []) ∧
    decode [0x91, 0x34] = .ok (.staIzy 0x34, []) ∧
    decode [0x92] = .ok (.illegal92, []) ∧
    decode [0x93] = .ok (.illegal93, []) ∧
    decode [0x94, 0x34] = .ok (.styZpx 0x34, []) ∧
    decode [0x95, 0x34] = .ok (.staZpx 0x34, []) ∧
    decode [0x96, 0x34] = .ok (.stxZpy 0x34, []) ∧
    decode [0x97, 0x34] = .ok (.saxZpy 0x34, []) ∧
    decode [0x98] = .ok (.tya, []) ∧
    decode [0x99, 0x34, 0x12] = .ok (.staAby 0x1234, []) ∧
    decode [0x9A] = .ok (.txs, []) ∧
    decode [0x9B] = .ok (.illegal9B, []) ∧
    decode [0x9C] = .ok (.illegal9C, []) ∧
    decode [0x9D, 0x34, 0x12] = .ok (.staAbx 0x1234, []) ∧
    decode [0x9E] = .ok (.illegal9E, []) ∧
    decode [0x9F] = .ok (.illegal9F, []) := by
  refine ⟨?_, ?_, ?_, ?_, ?_, ?_, ?_, ?_, ?_, ?_, ?_, ?_, ?_, ?_, ?_, ?_⟩ <;> rfl

/-- The words of row Ax of R88, written out: operand bytes `0x34`, then `0x12`. -/
theorem decode_words_rowA :
    decode [0xA0, 0x34] = .ok (.ldyImm 0x34, []) ∧
    decode [0xA1, 0x34] = .ok (.ldaIzx 0x34, []) ∧
    decode [0xA2, 0x34] = .ok (.ldxImm 0x34, []) ∧
    decode [0xA3, 0x34] = .ok (.laxIzx 0x34, []) ∧
    decode [0xA4, 0x34] = .ok (.ldyZp 0x34, []) ∧
    decode [0xA5, 0x34] = .ok (.ldaZp 0x34, []) ∧
    decode [0xA6, 0x34] = .ok (.ldxZp 0x34, []) ∧
    decode [0xA7, 0x34] = .ok (.laxZp 0x34, []) ∧
    decode [0xA8] = .ok (.tay, []) ∧
    decode [0xA9, 0x34] = .ok (.ldaImm 0x34, []) ∧
    decode [0xAA] = .ok (.tax, []) ∧
    decode [0xAB] = .ok (.illegalAB, []) ∧
    decode [0xAC, 0x34, 0x12] = .ok (.ldyAbs 0x1234, []) ∧
    decode [0xAD, 0x34, 0x12] = .ok (.ldaAbs 0x1234, []) ∧
    decode [0xAE, 0x34, 0x12] = .ok (.ldxAbs 0x1234, []) ∧
    decode [0xAF, 0x34, 0x12] = .ok (.laxAbs 0x1234, []) := by
  refine ⟨?_, ?_, ?_, ?_, ?_, ?_, ?_, ?_, ?_, ?_, ?_, ?_, ?_, ?_, ?_, ?_⟩ <;> rfl

/-- The words of row Bx of R88, written out: operand bytes `0x34`, then `0x12`. -/
theorem decode_words_rowB :
    decode [0xB0, 0x34] = .ok (.bcs 0x34, []) ∧
    decode [0xB1, 0x34] = .ok (.ldaIzy 0x34, []) ∧
    decode [0xB2] = .ok (.illegalB2, []) ∧
    decode [0xB3, 0x34] = .ok (.laxIzy 0x34, []) ∧
    decode [0xB4, 0x34] = .ok (.ldyZpx 0x34, []) ∧
    decode [0xB5, 0x34] = .ok (.ldaZpx 0x34, []) ∧
    decode [0xB6, 0x34] = .ok (.ldxZpy 0x34, []) ∧
    decode [0xB7, 0x34] = .ok (.laxZpy 0x34, []) ∧
    decode [0xB8] = .ok (.clv, []) ∧
    decode [0xB9, 0x34, 0x12] = .ok (.ldaAby 0x1234, []) ∧
    decode [0xBA] = .ok (.tsx, []) ∧
    decode [0xBB] = .ok (.illegalBB, []) ∧
    decode [0xBC, 0x34, 0x12] = .ok (.ldyAbx 0x1234, []) ∧
    decode [0xBD, 0x34, 0x12] = .ok (.ldaAbx 0x1234, []) ∧
    decode [0xBE, 0x34, 0x12] = .ok (.ldxAby 0x1234, []) ∧
    decode [0xBF, 0x34, 0x12] = .ok (.laxAby 0x1234, []) := by
  refine ⟨?_, ?_, ?_, ?_, ?_, ?_, ?_, ?_, ?_, ?_, ?_, ?_, ?_, ?_, ?_, ?_⟩ <;> rfl

/-- The words of row Cx of R88, written out: operand bytes `0x34`, then `0x12`. -/
theorem decode_words_rowC :
    decode [0xC0, 0x34] = .ok (.cpyImm 0x34, []) ∧
    decode [0xC1, 0x34] = .ok (.cmpIzx 0x34, []) ∧
    decode [0xC2, 0x34] = .ok (.nopC2 0x34, []) ∧
    decode [0xC3, 0x34] = .ok (.dcpIzx 0x34, []) ∧
    decode [0xC4, 0x34] = .ok (.cpyZp 0x34, []) ∧
    decode [0xC5, 0x34] = .ok (.cmpZp 0x34, []) ∧
    decode [0xC6, 0x34] = .ok (.decZp 0x34, []) ∧
    decode [0xC7, 0x34] = .ok (.dcpZp 0x34, []) ∧
    decode [0xC8] = .ok (.iny, []) ∧
    decode [0xC9, 0x34] = .ok (.cmpImm 0x34, []) ∧
    decode [0xCA] = .ok (.dex, []) ∧
    decode [0xCB] = .ok (.illegalCB, []) ∧
    decode [0xCC, 0x34, 0x12] = .ok (.cpyAbs 0x1234, []) ∧
    decode [0xCD, 0x34, 0x12] = .ok (.cmpAbs 0x1234, []) ∧
    decode [0xCE, 0x34, 0x12] = .ok (.decAbs 0x1234, []) ∧
    decode [0xCF, 0x34, 0x12] = .ok (.dcpAbs 0x1234, []) := by
  refine ⟨?_, ?_, ?_, ?_, ?_, ?_, ?_, ?_, ?_, ?_, ?_, ?_, ?_, ?_, ?_, ?_⟩ <;> rfl

/-- The words of row Dx of R88, written out: operand bytes `0x34`, then `0x12`. -/
theorem decode_words_rowD :
    decode [0xD0, 0x34] = .ok (.bne 0x34, []) ∧
    decode [0xD1, 0x34] = .ok (.cmpIzy 0x34, []) ∧
    decode [0xD2] = .ok (.illegalD2, []) ∧
    decode [0xD3, 0x34] = .ok (.dcpIzy 0x34, []) ∧
    decode [0xD4, 0x34] = .ok (.nopD4 0x34, []) ∧
    decode [0xD5, 0x34] = .ok (.cmpZpx 0x34, []) ∧
    decode [0xD6, 0x34] = .ok (.decZpx 0x34, []) ∧
    decode [0xD7, 0x34] = .ok (.dcpZpx 0x34, []) ∧
    decode [0xD8] = .ok (.cld, []) ∧
    decode [0xD9, 0x34, 0x12] = .ok (.cmpAby 0x1234, []) ∧
    decode [0xDA] = .ok (.nopDA, []) ∧
    decode [0xDB, 0x34, 0x12] = .ok (.dcpAby 0x1234, []) ∧
    decode [0xDC, 0x34, 0x12] = .ok (.nopDC 0x1234, []) ∧
    decode [0xDD, 0x34, 0x12] = .ok (.cmpAbx 0x1234, []) ∧
    decode [0xDE, 0x34, 0x12] = .ok (.decAbx 0x1234, []) ∧
    decode [0xDF, 0x34, 0x12] = .ok (.dcpAbx 0x1234, []) := by
  refine ⟨?_, ?_, ?_, ?_, ?_, ?_, ?_, ?_, ?_, ?_, ?_, ?_, ?_, ?_, ?_, ?_⟩ <;> rfl

/-- The words of row Ex of R88, written out: operand bytes `0x34`, then `0x12`. -/
theorem decode_words_rowE :
    decode [0xE0, 0x34] = .ok (.cpxImm 0x34, []) ∧
    decode [0xE1, 0x34] = .ok (.sbcIzx 0x34, []) ∧
    decode [0xE2, 0x34] = .ok (.nopE2 0x34, []) ∧
    decode [0xE3, 0x34] = .ok (.isbIzx 0x34, []) ∧
    decode [0xE4, 0x34] = .ok (.cpxZp 0x34, []) ∧
    decode [0xE5, 0x34] = .ok (.sbcZp 0x34, []) ∧
    decode [0xE6, 0x34] = .ok (.incZp 0x34, []) ∧
    decode [0xE7, 0x34] = .ok (.isbZp 0x34, []) ∧
    decode [0xE8] = .ok (.inx, []) ∧
    decode [0xE9, 0x34] = .ok (.sbcImm 0x34, []) ∧
    decode [0xEA] = .ok (.nop, []) ∧
    decode [0xEB, 0x34] = .ok (.sbcImmEB 0x34, []) ∧
    decode [0xEC, 0x34, 0x12] = .ok (.cpxAbs 0x1234, []) ∧
    decode [0xED, 0x34, 0x12] = .ok (.sbcAbs 0x1234, []) ∧
    decode [0xEE, 0x34, 0x12] = .ok (.incAbs 0x1234, []) ∧
    decode [0xEF, 0x34, 0x12] = .ok (.isbAbs 0x1234, []) := by
  refine ⟨?_, ?_, ?_, ?_, ?_, ?_, ?_, ?_, ?_, ?_, ?_, ?_, ?_, ?_, ?_, ?_⟩ <;> rfl

/-- The words of row Fx of R88, written out: operand bytes `0x34`, then `0x12`. -/
theorem decode_words_rowF :
    decode [0xF0, 0x34] = .ok (.beq 0x34, []) ∧
    decode [0xF1, 0x34] = .ok (.sbcIzy 0x34, []) ∧
    decode [0xF2] = .ok (.illegalF2, []) ∧
    decode [0xF3, 0x34] = .ok (.isbIzy 0x34, []) ∧
    decode [0xF4, 0x34] = .ok (.nopF4 0x34, []) ∧
    decode [0xF5, 0x34] = .ok (.sbcZpx 0x34, []) ∧
    decode [0xF6, 0x34] = .ok (.incZpx 0x34, []) ∧
    decode [0xF7, 0x34] = .ok (.isbZpx 0x34, []) ∧
    decode [0xF8] = .ok (.sed, []) ∧
    decode [0xF9, 0x34, 0x12] = .ok (.sbcAby 0x1234, []) ∧
    decode [0xFA] = .ok (.nopFA, []) ∧
    decode [0xFB, 0x34, 0x12] = .ok (.isbAby 0x1234, []) ∧
    decode [0xFC, 0x34, 0x12] = .ok (.nopFC 0x1234, []) ∧
    decode [0xFD, 0x34, 0x12] = .ok (.sbcAbx 0x1234, []) ∧
    decode [0xFE, 0x34, 0x12] = .ok (.incAbx 0x1234, []) ∧
    decode [0xFF, 0x34, 0x12] = .ok (.isbAbx 0x1234, []) := by
  refine ⟨?_, ?_, ?_, ?_, ?_, ?_, ?_, ?_, ?_, ?_, ?_, ?_, ?_, ?_, ?_, ?_⟩ <;> rfl

end Sys2Proof
end

