-- ==== Sys2Proof/Machine/Fetch.lean ====
section
/-! DEFINITION. Fetch and decode (40_execute_and_addressing.md R100-R102): the opcode byte and then the operand bytes, each by one bus
read with the owner's full read semantics (R101). -/

namespace Sys2Proof.Machine

/-- The operand bytes of the instruction at `s.pc` whose opcode byte selected `sh`, read in ascending address order (R100, R101). -/
def fetchOperands (sh : Shape) (s : State) : Res Instr :=
  match sh with
  | .op0 i => .ok i s
  | .op1 f =>
    match busRead s.pc (s.pc + 1) s with
    | .fault e => .fault e
    | .ok b1 s1 => .ok (f b1) s1
  | .op2 f =>
    match busRead s.pc (s.pc + 1) s with
    | .fault e => .fault e
    | .ok b1 s1 =>
      match busRead s.pc (s.pc + 2) s1 with
      | .fault e => .fault e
      | .ok b2 s2 => .ok (f (mk16 b2 b1)) s2

/-- Fetch and decode the instruction at `s.pc`; PC still points at its opcode in the state left (R100, R102). -/
def fetch (s : State) : Res Instr :=
  match busRead s.pc s.pc s with
  | .fault e => .fault e
  | .ok opc s1 => fetchOperands (shapeOf opc) s1

end Sys2Proof.Machine
end

