-- ==== Sys2Proof/Machine/Step.lean ====
section
/-! DEFINITION. One step: one iteration of the run loop (40_execute_and_addressing.md R100). -/

namespace Sys2Proof.Machine

/-- `Step()` of R100. After a recorded fault no step is enabled: the fault is answered again (60_exceptions.md R230; log 2). After a
halt every piece of state keeps its value (R230; log 3). At the boundary the host's stop request is taken (R279). Otherwise a pending
NMI is serviced (R222), the instruction is fetched and decoded, and `exec` runs it: PC <- next, its effect, its Tick (log 10). -/
def step (s : State) : Host.Outcome State Fault Refusal :=
  match s.fault with
  | some f => .fault f
  | none =>
    if s.running then
      if s.stopRequest then .next (stopRun s)
      else
        match fetch (pollNmi s) with
        | .fault f => .fault f
        | .ok i s1 => exec i s1
    else .next s

/-- `s` with the instruction of bits `w` where `step` fetches next (log 9). -/
def State.withFetchWord (s : State) (nbits w : Nat) : State := loadProgramAt8000 (bytesOfNat 3 (w % 2 ^ nbits)) s

end Sys2Proof.Machine
end

