-- ==== Sys2Proof/Machine/Descriptors.lean ====
section
/-! DEFINITION. The descriptors of spec/opcode_table.json (40_execute_and_addressing.md R102, R105): mnemonic, mode with its operand,
base cycles and page penalty of each opcode. The meanings are written from the rules of files 41 to 44; this is the table, written
out beside them, in whose terms statements name an instruction's forms. -/

namespace Sys2Proof.Machine

/-- The 64 mnemonics that have a descriptor (30_encoding.md R89). -/
inductive Mnemonic where
  | adc | and | asl | bcc | bcs | beq | bit | bmi
  | bne | bpl | brk | bvc | bvs | clc | cld | cli
  | clv | cmp | cpx | cpy | dcp | dec | dex | dey
  | eor | inc | inx | iny | isb | jmp | jsr | lax
  | lda | ldx | ldy | lsr | nop | ora | pha | php
  | pla | plp | rla | rol | ror | rra | rti | rts
  | sax | sbc | sec | sed | sei | slo | sre | sta
  | stx | sty | tax | tay | tsx | txa | txs | tya
  deriving DecidableEq, Repr

/-- The thirteen addressing modes of R106, the eight with an address in data memory under `mem`, each with its operand. -/
inductive Mode where
  | imp
  | acc
  | imm (b1 : Byte)
  | mem (m : MemMode)
  | rel (b1 : Byte)
  | ind (addr : Word)
  deriving DecidableEq, Repr

/-- The instruction length of a mode, `1 + operand_length` (R106, R126). -/
def Mode.length (m : Mode) : Nat :=
  match m with
  | .imp => 1
  | .acc => 1
  | .imm _ => 2
  | .mem m => m.length
  | .rel _ => 2
  | .ind _ => 3

/-- The name of an addressing mode without its operand (R106). -/
inductive ModeKind where
  | imp | acc | imm | zp | zpx | zpy | abs | abx | aby | rel | ind | izx | izy
  deriving DecidableEq, Repr

/-- Which of the thirteen modes of R106. -/
def Mode.kind (m : Mode) : ModeKind :=
  match m with
  | .imp => .imp
  | .acc => .acc
  | .imm _ => .imm
  | .mem (.zp _) => .zp
  | .mem (.zpx _) => .zpx
  | .mem (.zpy _) => .zpy
  | .mem (.abs _) => .abs
  | .mem (.abx _) => .abx
  | .mem (.aby _) => .aby
  | .mem (.izx _) => .izx
  | .mem (.izy _) => .izy
  | .rel _ => .rel
  | .ind _ => .ind

/-- The operand bytes that follow the opcode byte: `b1`, or `b1` low and `b2` high (30_encoding.md R86). -/
def Mode.operandBytes (m : Mode) : List Byte :=
  match m with
  | .imp => []
  | .acc => []
  | .imm b1 => [b1]
  | .mem (.zp b1) => [b1]
  | .mem (.zpx b1) => [b1]
  | .mem (.zpy b1) => [b1]
  | .mem (.abs addr) => [loByte addr, hiByte addr]
  | .mem (.abx addr) => [loByte addr, hiByte addr]
  | .mem (.aby addr) => [loByte addr, hiByte addr]
  | .mem (.izx b1) => [b1]
  | .mem (.izy b1) => [b1]
  | .rel b1 => [b1]
  | .ind addr => [loByte addr, hiByte addr]

/-- The operand's effective address crosses a page (R119): only memory modes can. -/
def Mode.crossed (m : Mode) (s : State) : Bool :=
  match m with
  | .imp => false
  | .acc => false
  | .imm _ => false
  | .mem m => m.crossed s
  | .rel _ => false
  | .ind _ => false

/-- One row of the table (R102): what an opcode byte and its operand bytes select, with the timing of R105. -/
structure Descriptor where
  mnemonic : Mnemonic
  mode : Mode
  cycles : Nat
  penalty : Bool
  deriving DecidableEq, Repr

/-- `DESCRIPTOR[opc]` with the operand in its mode (R100, R102); none for the 25 refused bytes (30_encoding.md R90). -/
def descriptor (i : Instr) : Option Descriptor :=
  match i with
  | .brk => some ⟨.brk, .imp, 7, false⟩
  | .oraIzx b1 => some ⟨.ora, .mem (.izx b1), 6, false⟩
  | .illegal02 => none
  | .sloIzx b1 => some ⟨.slo, .mem (.izx b1), 8, false⟩
  | .nop04 b1 => some ⟨.nop, .mem (.zp b1), 3, false⟩
  | .oraZp b1 => some ⟨.ora, .mem (.zp b1), 3, false⟩
  | .aslZp b1 => some ⟨.asl, .mem (.zp b1), 5, false⟩
  | .sloZp b1 => some ⟨.slo, .mem (.zp b1), 5, false⟩
  | .php => some ⟨.php, .imp, 3, false⟩
  | .oraImm b1 => some ⟨.ora, .imm b1, 2, false⟩
  | .aslAcc => some ⟨.asl, .acc, 2, false⟩
  | .illegal0B => none
  | .nop0C addr => some ⟨.nop, .mem (.abs addr), 4, false⟩
  | .oraAbs addr => some ⟨.ora, .mem (.abs addr), 4, false⟩
  | .aslAbs addr => some ⟨.asl, .mem (.abs addr), 6, false⟩
  | .sloAbs addr => some ⟨.slo, .mem (.abs addr), 6, false⟩
  | .bpl b1 => some ⟨.bpl, .rel b1, 2, false⟩
  | .oraIzy b1 => some ⟨.ora, .mem (.izy b1), 5, true⟩
  | .illegal12 => none
  | .sloIzy b1 => some ⟨.slo, .mem (.izy b1), 8, false⟩
  | .nop14 b1 => some ⟨.nop, .mem (.zpx b1), 4, false⟩
  | .oraZpx b1 => some ⟨.ora, .mem (.zpx b1), 4, false⟩
  | .aslZpx b1 => some ⟨.asl, .mem (.zpx b1), 6, false⟩
  | .sloZpx b1 => some ⟨.slo, .mem (.zpx b1), 6, false⟩
  | .clc => some ⟨.clc, .imp, 2, false⟩
  | .oraAby addr => some ⟨.ora, .mem (.aby addr), 4, true⟩
  | .nop1A => some ⟨.nop, .imp, 2, false⟩
  | .sloAby addr => some ⟨.slo, .mem (.aby addr), 7, false⟩
  | .nop1C addr => some ⟨.nop, .mem (.abx addr), 4, true⟩
  | .oraAbx addr => some ⟨.ora, .mem (.abx addr), 4, true⟩
  | .aslAbx addr => some ⟨.asl, .mem (.abx addr), 7, false⟩
  | .sloAbx addr => some ⟨.slo, .mem (.abx addr), 7, false⟩
  | .jsr addr => some ⟨.jsr, .mem (.abs addr), 6, false⟩
  | .andIzx b1 => some ⟨.and, .mem (.izx b1), 6, false⟩
  | .illegal22 => none
  | .rlaIzx b1 => some ⟨.rla, .mem (.izx b1), 8, false⟩
  | .bitZp b1 => some ⟨.bit, .mem (.zp b1), 3, false⟩
  | .andZp b1 => some ⟨.and, .mem (.zp b1), 3, false⟩
  | .rolZp b1 => some ⟨.rol, .mem (.zp b1), 5, false⟩
  | .rlaZp b1 => some ⟨.rla, .mem (.zp b1), 5, false⟩
  | .plp => some ⟨.plp, .imp, 4, false⟩
  | .andImm b1 => some ⟨.and, .imm b1, 2, false⟩
  | .rolAcc => some ⟨.rol, .acc, 2, false⟩
  | .illegal2B => none
  | .bitAbs addr => some ⟨.bit, .mem (.abs addr), 4, false⟩
  | .andAbs addr => some ⟨.and, .mem (.abs addr), 4, false⟩
  | .rolAbs addr => some ⟨.rol, .mem (.abs addr), 6, false⟩
  | .rlaAbs addr => some ⟨.rla, .mem (.abs addr), 6, false⟩
  | .bmi b1 => some ⟨.bmi, .rel b1, 2, false⟩
  | .andIzy b1 => some ⟨.and, .mem (.izy b1), 5, true⟩
  | .illegal32 => none
  | .rlaIzy b1 => some ⟨.rla, .mem (.izy b1), 8, false⟩
  | .nop34 b1 => some ⟨.nop, .mem (.zpx b1), 4, false⟩
  | .andZpx b1 => some ⟨.and, .mem (.zpx b1), 4, false⟩
  | .rolZpx b1 => some ⟨.rol, .mem (.zpx b1), 6, false⟩
  | .rlaZpx b1 => some ⟨.rla, .mem (.zpx b1), 6, false⟩
  | .sec => some ⟨.sec, .imp, 2, false⟩
  | .andAby addr => some ⟨.and, .mem (.aby addr), 4, true⟩
  | .nop3A => some ⟨.nop, .imp, 2, false⟩
  | .rlaAby addr => some ⟨.rla, .mem (.aby addr), 7, false⟩
  | .nop3C addr => some ⟨.nop, .mem (.abx addr), 4, true⟩
  | .andAbx addr => some ⟨.and, .mem (.abx addr), 4, true⟩
  | .rolAbx addr => some ⟨.rol, .mem (.abx addr), 7, false⟩
  | .rlaAbx addr => some ⟨.rla, .mem (.abx addr), 7, false⟩
  | .rti => some ⟨.rti, .imp, 6, false⟩
  | .eorIzx b1 => some ⟨.eor, .mem (.izx b1), 6, false⟩
  | .illegal42 => none
  | .sreIzx b1 => some ⟨.sre, .mem (.izx b1), 8, false⟩
  | .nop44 b1 => some ⟨.nop, .mem (.zp b1), 3, false⟩
  | .eorZp b1 => some ⟨.eor, .mem (.zp b1), 3, false⟩
  | .lsrZp b1 => some ⟨.lsr, .mem (.zp b1), 5, false⟩
  | .sreZp b1 => some ⟨.sre, .mem (.zp b1), 5, false⟩
  | .pha => some ⟨.pha, .imp, 3, false⟩
  | .eorImm b1 => some ⟨.eor, .imm b1, 2, false⟩
  | .lsrAcc => some ⟨.lsr, .acc, 2, false⟩
  | .illegal4B => none
  | .jmpAbs addr => some ⟨.jmp, .mem (.abs addr), 3, false⟩
  | .eorAbs addr => some ⟨.eor, .mem (.abs addr), 4, false⟩
  | .lsrAbs addr => some ⟨.lsr, .mem (.abs addr), 6, false⟩
  | .sreAbs addr => some ⟨.sre, .mem (.abs addr), 6, false⟩
  | .bvc b1 => some ⟨.bvc, .rel b1, 2, false⟩
  | .eorIzy b1 => some ⟨.eor, .mem (.izy b1), 5, true⟩
  | .illegal52 => none
  | .sreIzy b1 => some ⟨.sre, .mem (.izy b1), 8, false⟩
  | .nop54 b1 => some ⟨.nop, .mem (.zpx b1), 4, false⟩
  | .eorZpx b1 => some ⟨.eor, .mem (.zpx b1), 4, false⟩
  | .lsrZpx b1 => some ⟨.lsr, .mem (.zpx b1), 6, false⟩
  | .sreZpx b1 => some ⟨.sre, .mem (.zpx b1), 6, false⟩
  | .cli => some ⟨.cli, .imp, 2, false⟩
  | .eorAby addr => some ⟨.eor, .mem (.aby addr), 4, true⟩
  | .nop5A => some ⟨.nop, .imp, 2, false⟩
  | .sreAby addr => some ⟨.sre, .mem (.aby addr), 7, false⟩
  | .nop5C addr => some ⟨.nop, .mem (.abx addr), 4, true⟩
  | .eorAbx addr => some ⟨.eor, .mem (.abx addr), 4, true⟩
  | .lsrAbx addr => some ⟨.lsr, .mem (.abx addr), 7, false⟩
  | .sreAbx addr => some ⟨.sre, .mem (.abx addr), 7, false⟩
  | .rts => some ⟨.rts, .imp, 6, false⟩
  | .adcIzx b1 => some ⟨.adc, .mem (.izx b1), 6, false⟩
  | .illegal62 => none
  | .rraIzx b1 => some ⟨.rra, .mem (.izx b1), 8, false⟩
  | .nop64 b1 => some ⟨.nop, .mem (.zp b1), 3, false⟩
  | .adcZp b1 => some ⟨.adc, .mem (.zp b1), 3, false⟩
  | .rorZp b1 => some ⟨.ror, .mem (.zp b1), 5, false⟩
  | .rraZp b1 => some ⟨.rra, .mem (.zp b1), 5, false⟩
  | .pla => some ⟨.pla, .imp, 4, false⟩
  | .adcImm b1 => some ⟨.adc, .imm b1, 2, false⟩
  | .rorAcc => some ⟨.ror, .acc, 2, false⟩
  | .illegal6B => none
  | .jmpInd addr => some ⟨.jmp, .ind addr, 5, false⟩
  | .adcAbs addr => some ⟨.adc, .mem (.abs addr), 4, false⟩
  | .rorAbs addr => some ⟨.ror, .mem (.abs addr), 6, false⟩
  | .rraAbs addr => some ⟨.rra, .mem (.abs addr), 6, false⟩
  | .bvs b1 => some ⟨.bvs, .rel b1, 2, false⟩
  | .adcIzy b1 => some ⟨.adc, .mem (.izy b1), 5, true⟩
  | .illegal72 => none
  | .rraIzy b1 => some ⟨.rra, .mem (.izy b1), 8, false⟩
  | .nop74 b1 => some ⟨.nop, .mem (.zpx b1), 4, false⟩
  | .adcZpx b1 => some ⟨.adc, .mem (.zpx b1), 4, false⟩
  | .rorZpx b1 => some ⟨.ror, .mem (.zpx b1), 6, false⟩
  | .rraZpx b1 => some ⟨.rra, .mem (.zpx b1), 6, false⟩
  | .sei => some ⟨.sei, .imp, 2, false⟩
  | .adcAby addr => some ⟨.adc, .mem (.aby addr), 4, true⟩
  | .nop7A => some ⟨.nop, .imp, 2, false⟩
  | .rraAby addr => some ⟨.rra, .mem (.aby addr), 7, false⟩
  | .nop7C addr => some ⟨.nop, .mem (.abx addr), 4, true⟩
  | .adcAbx addr => some ⟨.adc, .mem (.abx addr), 4, true⟩
  | .rorAbx addr => some ⟨.ror, .mem (.abx addr), 7, false⟩
  | .rraAbx addr => some ⟨.rra, .mem (.abx addr), 7, false⟩
  | .nop80 b1 => some ⟨.nop, .imm b1, 2, false⟩
  | .staIzx b1 => some ⟨.sta, .mem (.izx b1), 6, false⟩
  | .nop82 b1 => some ⟨.nop, .imm b1, 2, false⟩
  | .saxIzx b1 => some ⟨.sax, .mem (.izx b1), 6, false⟩
  | .styZp b1 => some ⟨.sty, .mem (.zp b1), 3, false⟩
  | .staZp b1 => some ⟨.sta, .mem (.zp b1), 3, false⟩
  | .stxZp b1 => some ⟨.stx, .mem (.zp b1), 3, false⟩
  | .saxZp b1 => some ⟨.sax, .mem (.zp b1), 3, false⟩
  | .dey => some ⟨.dey, .imp, 2, false⟩
  | .nop89 b1 => some ⟨.nop, .imm b1, 2, false⟩
  | .txa => some ⟨.txa, .imp, 2, false⟩
  | .illegal8B => none
  | .styAbs addr => some ⟨.sty, .mem (.abs addr), 4, false⟩
  | .staAbs addr => some ⟨.sta, .mem (.abs addr), 4, false⟩
  | .stxAbs addr => some ⟨.stx, .mem (.abs addr), 4, false⟩
  | .saxAbs addr => some ⟨.sax, .mem (.abs addr), 4, false⟩
  | .bcc b1 => some ⟨.bcc, .rel b1, 2, false⟩
  | .staIzy b1 => some ⟨.sta, .mem (.izy b1), 6, false⟩
  | .illegal92 => none
  | .illegal93 => none
  | .styZpx b1 => some ⟨.sty, .mem (.zpx b1), 4, false⟩
  | .staZpx b1 => some ⟨.sta, .mem (.zpx b1), 4, false⟩
  | .stxZpy b1 => some ⟨.stx, .mem (.zpy b1), 4, false⟩
  | .saxZpy b1 => some ⟨.sax, .mem (.zpy b1), 4, false⟩
  | .tya => some ⟨.tya, .imp, 2, false⟩
  | .staAby addr => some ⟨.sta, .mem (.aby addr), 5, false⟩
  | .txs => some ⟨.txs, .imp, 2, false⟩
  | .illegal9B => none
  | .illegal9C => none
  | .staAbx addr => some ⟨.sta, .mem (.abx addr), 5, false⟩
  | .illegal9E => none
  | .illegal9F => none
  | .ldyImm b1 => some ⟨.ldy, .imm b1, 2, false⟩
  | .ldaIzx b1 => some ⟨.lda, .mem (.izx b1), 6, false⟩
  | .ldxImm b1 => some ⟨.ldx, .imm b1, 2, false⟩
  | .laxIzx b1 => some ⟨.lax, .mem (.izx b1), 6, false⟩
  | .ldyZp b1 => some ⟨.ldy, .mem (.zp b1), 3, false⟩
  | .ldaZp b1 => some ⟨.lda, .mem (.zp b1), 3, false⟩
  | .ldxZp b1 => some ⟨.ldx, .mem (.zp b1), 3, false⟩
  | .laxZp b1 => some ⟨.lax, .mem (.zp b1), 3, false⟩
  | .tay => some ⟨.tay, .imp, 2, false⟩
  | .ldaImm b1 => some ⟨.lda, .imm b1, 2, false⟩
  | .tax => some ⟨.tax, .imp, 2, false⟩
  | .illegalAB => none
  | .ldyAbs addr => some ⟨.ldy, .mem (.abs addr), 4, false⟩
  | .ldaAbs addr => some ⟨.lda, .mem (.abs addr), 4, false⟩
  | .ldxAbs addr => some ⟨.ldx, .mem (.abs addr), 4, false⟩
  | .laxAbs addr => some ⟨.lax, .mem (.abs addr), 4, false⟩
  | .bcs b1 => some ⟨.bcs, .rel b1, 2, false⟩
  | .ldaIzy b1 => some ⟨.lda, .mem (.izy b1), 5, true⟩
  | .illegalB2 => none
  | .laxIzy b1 => some ⟨.lax, .mem (.izy b1), 5, true⟩
  | .ldyZpx b1 => some ⟨.ldy, .mem (.zpx b1), 4, false⟩
  | .ldaZpx b1 => some ⟨.lda, .mem (.zpx b1), 4, false⟩
  | .ldxZpy b1 => some ⟨.ldx, .mem (.zpy b1), 4, false⟩
  | .laxZpy b1 => some ⟨.lax, .mem (.zpy b1), 4, false⟩
  | .clv => some ⟨.clv, .imp, 2, false⟩
  | .ldaAby addr => some ⟨.lda, .mem (.aby addr), 4, true⟩
  | .tsx => some ⟨.tsx, .imp, 2, false⟩
  | .illegalBB => none
  | .ldyAbx addr => some ⟨.ldy, .mem (.abx addr), 4, true⟩
  | .ldaAbx addr => some ⟨.lda, .mem (.abx addr), 4, true⟩
  | .ldxAby addr => some ⟨.ldx, .mem (.aby addr), 4, true⟩
  | .laxAby addr => some ⟨.lax, .mem (.aby addr), 4, true⟩
  | .cpyImm b1 => some ⟨.cpy, .imm b1, 2, false⟩
  | .cmpIzx b1 => some ⟨.cmp, .mem (.izx b1), 6, false⟩
  | .nopC2 b1 => some ⟨.nop, .imm b1, 2, false⟩
  | .dcpIzx b1 => some ⟨.dcp, .mem (.izx b1), 8, false⟩
  | .cpyZp b1 => some ⟨.cpy, .mem (.zp b1), 3, false⟩
  | .cmpZp b1 => some ⟨.cmp, .mem (.zp b1), 3, false⟩
  | .decZp b1 => some ⟨.dec, .mem (.zp b1), 5, false⟩
  | .dcpZp b1 => some ⟨.dcp, .mem (.zp b1), 5, false⟩
  | .iny => some ⟨.iny, .imp, 2, false⟩
  | .cmpImm b1 => some ⟨.cmp, .imm b1, 2, false⟩
  | .dex => some ⟨.dex, .imp, 2, false⟩
  | .illegalCB => none
  | .cpyAbs addr => some ⟨.cpy, .mem (.abs addr), 4, false⟩
  | .cmpAbs addr => some ⟨.cmp, .mem (.abs addr), 4, false⟩
  | .decAbs addr => some ⟨.dec, .mem (.abs addr), 6, false⟩
  | .dcpAbs addr => some ⟨.dcp, .mem (.abs addr), 6, false⟩
  | .bne b1 => some ⟨.bne, .rel b1, 2, false⟩
  | .cmpIzy b1 => some ⟨.cmp, .mem (.izy b1), 5, true⟩
  | .illegalD2 => none
  | .dcpIzy b1 => some ⟨.dcp, .mem (.izy b1), 8, false⟩
  | .nopD4 b1 => some ⟨.nop, .mem (.zpx b1), 4, false⟩
  | .cmpZpx b1 => some ⟨.cmp, .mem (.zpx b1), 4, false⟩
  | .decZpx b1 => some ⟨.dec, .mem (.zpx b1), 6, false⟩
  | .dcpZpx b1 => some ⟨.dcp, .mem (.zpx b1), 6, false⟩
  | .cld => some ⟨.cld, .imp, 2, false⟩
  | .cmpAby addr => some ⟨.cmp, .mem (.aby addr), 4, true⟩
  | .nopDA => some ⟨.nop, .imp, 2, false⟩
  | .dcpAby addr => some ⟨.dcp, .mem (.aby addr), 7, false⟩
  | .nopDC addr => some ⟨.nop, .mem (.abx addr), 4, true⟩
  | .cmpAbx addr => some ⟨.cmp, .mem (.abx addr), 4, true⟩
  | .decAbx addr => some ⟨.dec, .mem (.abx addr), 7, false⟩
  | .dcpAbx addr => some ⟨.dcp, .mem (.abx addr), 7, false⟩
  | .cpxImm b1 => some ⟨.cpx, .imm b1, 2, false⟩
  | .sbcIzx b1 => some ⟨.sbc, .mem (.izx b1), 6, false⟩
  | .nopE2 b1 => some ⟨.nop, .imm b1, 2, false⟩
  | .isbIzx b1 => some ⟨.isb, .mem (.izx b1), 8, false⟩
  | .cpxZp b1 => some ⟨.cpx, .mem (.zp b1), 3, false⟩
  | .sbcZp b1 => some ⟨.sbc, .mem (.zp b1), 3, false⟩
  | .incZp b1 => some ⟨.inc, .mem (.zp b1), 5, false⟩
  | .isbZp b1 => some ⟨.isb, .mem (.zp b1), 5, false⟩
  | .inx => some ⟨.inx, .imp, 2, false⟩
  | .sbcImm b1 => some ⟨.sbc, .imm b1, 2, false⟩
  | .nop => some ⟨.nop, .imp, 2, false⟩
  | .sbcImmEB b1 => some ⟨.sbc, .imm b1, 2, false⟩
  | .cpxAbs addr => some ⟨.cpx, .mem (.abs addr), 4, false⟩
  | .sbcAbs addr => some ⟨.sbc, .mem (.abs addr), 4, false⟩
  | .incAbs addr => some ⟨.inc, .mem (.abs addr), 6, false⟩
  | .isbAbs addr => some ⟨.isb, .mem (.abs addr), 6, false⟩
  | .beq b1 => some ⟨.beq, .rel b1, 2, false⟩
  | .sbcIzy b1 => some ⟨.sbc, .mem (.izy b1), 5, true⟩
  | .illegalF2 => none
  | .isbIzy b1 => some ⟨.isb, .mem (.izy b1), 8, false⟩
  | .nopF4 b1 => some ⟨.nop, .mem (.zpx b1), 4, false⟩
  | .sbcZpx b1 => some ⟨.sbc, .mem (.zpx b1), 4, false⟩
  | .incZpx b1 => some ⟨.inc, .mem (.zpx b1), 6, false⟩
  | .isbZpx b1 => some ⟨.isb, .mem (.zpx b1), 6, false⟩
  | .sed => some ⟨.sed, .imp, 2, false⟩
  | .sbcAby addr => some ⟨.sbc, .mem (.aby addr), 4, true⟩
  | .nopFA => some ⟨.nop, .imp, 2, false⟩
  | .isbAby addr => some ⟨.isb, .mem (.aby addr), 7, false⟩
  | .nopFC addr => some ⟨.nop, .mem (.abx addr), 4, true⟩
  | .sbcAbx addr => some ⟨.sbc, .mem (.abx addr), 4, true⟩
  | .incAbx addr => some ⟨.inc, .mem (.abx addr), 7, false⟩
  | .isbAbx addr => some ⟨.isb, .mem (.abx addr), 7, false⟩

end Sys2Proof.Machine
end

