-- ==== Sys2Proof/Safety.lean ====
section
/-! DEFINITION. The terms statements use: which accesses complete, an instruction's operand forms as its rule lists them, what a step
leaves in P and in RAM, the cells an instruction stores to, and the invariant of a safe run. -/

namespace Sys2Proof.Machine

/-! ### Which accesses complete -/

/-- A bus read of `a` completes: every owner but the write-only ports, 0x4014 and the unimplemented region (20_memory.md R47, R49, R50). -/
def readable (a : Word) : Bool :=
  decide (a.toNat < 0x2000) || decide (0x8000 ≤ a.toNat)
    || (decide (0x2000 ≤ a.toNat ∧ a.toNat < 0x4000) && decide (a.toNat % 8 = 2 ∨ a.toNat % 8 = 4 ∨ a.toNat % 8 = 7))
    || decide (0x4000 ≤ a.toNat ∧ a.toNat < 0x4020 ∧ a.toNat ≠ 0x4014)

/-- A bus write of `v` to `a` completes in state `s`: RAM, a writable port (0x2007 only from VRAM address 0x2000 on), an I/O register,
0x4014 only from a page every byte of which is readable (20_memory.md R47-R54, 60_exceptions.md R259, R262). -/
def writable (a : Word) (v : Byte) (s : State) : Bool :=
  decide (a.toNat < 0x2000)
    || (decide (0x2000 ≤ a.toNat ∧ a.toNat < 0x4000) && decide (a.toNat % 8 ≠ 2) && decide (a.toNat % 8 = 7 → 0x2000 ≤ s.ppu.v.toNat))
    || (decide (0x4000 ≤ a.toNat ∧ a.toNat < 0x4020) && decide (a.toNat = 0x4014 → v.toNat < 0x20 ∨ 0x80 ≤ v.toNat))

/-- A read of `a` and then a write to `a` both complete, whatever byte is written: RAM, port 0x2004, port 0x2007 where the address the
read leaves is at least 0x2000, an I/O register but 0x4014 (40_execute_and_addressing.md R125). -/
def modifiable (a : Word) (s : State) : Bool :=
  decide (a.toNat < 0x2000)
    || (decide (0x2000 ≤ a.toNat ∧ a.toNat < 0x4000) &&
        (decide (a.toNat % 8 = 4) || decide (a.toNat % 8 = 7 ∧ 0x2000 ≤ (vramIncrement s.ppu).v.toNat)))
    || decide (0x4000 ≤ a.toNat ∧ a.toNat < 0x4020 ∧ a.toNat ≠ 0x4014)

/-- Plain memory: RAM or PRG ROM, whose reads have no side effect (20_memory.md R48, R51, R61). -/
def isPlain (a : Word) : Bool := decide (a.toNat < 0x2000) || decide (0x8000 ≤ a.toNat)

/-! ### Operand forms -/

/-- One entry `mode opcode (length, cycles)` of a rule's operand list, `penalty` its `+` mark (41_alu.md to 44_unofficial.md). -/
structure Form where
  opcode : Byte
  kind : ModeKind
  cycles : Nat
  penalty : Bool
  deriving DecidableEq, Repr

/-- `i` is the instruction of this form with the operand of `m`: its encoding is the opcode byte and that operand's bytes. -/
abbrev Form.encodes (r : Form) (i : Instr) (m : Mode) : Prop := m.kind = r.kind ∧ encode i = r.opcode :: m.operandBytes

/-- `d.cycles + (d.page_penalty and crossed ? 1 : 0)` (40_execute_and_addressing.md R100, R105). -/
def Form.total (r : Form) (m : Mode) (s : State) : Nat := r.cycles + (if r.penalty && m.crossed s then 1 else 0)

/-- The operand value of R107 where an instruction has one: `b1`, `A`, or one bus read at `ea`, in a state whose PC is `next`. -/
def operandOf (m : Mode) (s : State) : Option (Res Byte) :=
  match m with
  | .imp => none
  | .acc => some (.ok s.a (s.atNext 1))
  | .imm b1 => some (.ok b1 (s.atNext 2))
  | .mem m => some (busRead s.pc (m.ea s) (s.atNext m.length))
  | .rel _ => none
  | .ind _ => none

/-- The operand's address, if it has one, can be read. -/
def operandReadable (m : Mode) (s : State) : Bool :=
  match m with
  | .imp => true
  | .acc => true
  | .imm _ => true
  | .mem m => readable (m.ea s)
  | .rel _ => true
  | .ind addr => readable addr && readable (indirectHigh addr)

/-! ### The opcode map, row by row (30_encoding.md R88): the row of high nibble `hi`, one cell per low nibble -/

/-- The row of high nibble `hi` of the opcode map of R88: mnemonic and mode of each cell, none where R88 has a refused opcode. -/
def opcodeMapRow (hi : Nat) : List (Option (Mnemonic × ModeKind)) :=
  match hi with
  | 0 => [some (.brk, .imp), some (.ora, .izx), none, some (.slo, .izx),
    some (.nop, .zp), some (.ora, .zp), some (.asl, .zp), some (.slo, .zp),
    some (.php, .imp), some (.ora, .imm), some (.asl, .acc), none,
    some (.nop, .abs), some (.ora, .abs), some (.asl, .abs), some (.slo, .abs)]
  | 1 => [some (.bpl, .rel), some (.ora, .izy), none, some (.slo, .izy),
    some (.nop, .zpx), some (.ora, .zpx), some (.asl, .zpx), some (.slo, .zpx),
    some (.clc, .imp), some (.ora, .aby), some (.nop, .imp), some (.slo, .aby),
    some (.nop, .abx), some (.ora, .abx), some (.asl, .abx), some (.slo, .abx)]
  | 2 => [some (.jsr, .abs), some (.and, .izx), none, some (.rla, .izx),
    some (.bit, .zp), some (.and, .zp), some (.rol, .zp), some (.rla, .zp),
    some (.plp, .imp), some (.and, .imm), some (.rol, .acc), none,
    some (.bit, .abs), some (.and, .abs), some (.rol, .abs), some (.rla, .abs)]
  | 3 => [some (.bmi, .rel), some (.and, .izy), none, some (.rla, .izy),
    some (.nop, .zpx), some (.and, .zpx), some (.rol, .zpx), some (.rla, .zpx),
    some (.sec, .imp), some (.and, .aby), some (.nop, .imp), some (.rla, .aby),
    some (.nop, .abx), some (.and, .abx), some (.rol, .abx), some (.rla, .abx)]
  | 4 => [some (.rti, .imp), some (.eor, .izx), none, some (.sre, .izx),
    some (.nop, .zp), some (.eor, .zp), some (.lsr, .zp), some (.sre, .zp),
    some (.pha, .imp), some (.eor, .imm), some (.lsr, .acc), none,
    some (.jmp, .abs), some (.eor, .abs), some (.lsr, .abs), some (.sre, .abs)]
  | 5 => [some (.bvc, .rel), some (.eor, .izy), none, some (.sre, .izy),
    some (.nop, .zpx), some (.eor, .zpx), some (.lsr, .zpx), some (.sre, .zpx),
    some (.cli, .imp), some (.eor, .aby), some (.nop, .imp), some (.sre, .aby),
    some (.nop, .abx), some (.eor, .abx), some (.lsr, .abx), some (.sre, .abx)]
  | 6 => [some (.rts, .imp), some (.adc, .izx), none, some (.rra, .izx),
    some (.nop, .zp), some (.adc, .zp), some (.ror, .zp), some (.rra, .zp),
    some (.pla, .imp), some (.adc, .imm), some (.ror, .acc), none,
    some (.jmp, .ind), some (.adc, .abs), some (.ror, .abs), some (.rra, .abs)]
  | 7 => [some (.bvs, .rel), some (.adc, .izy), none, some (.rra, .izy),
    some (.nop, .zpx), some (.adc, .zpx), some (.ror, .zpx), some (.rra, .zpx),
    some (.sei, .imp), some (.adc, .aby), some (.nop, .imp), some (.rra, .aby),
    some (.nop, .abx), some (.adc, .abx), some (.ror, .abx), some (.rra, .abx)]
  | 8 => [some (.nop, .imm), some (.sta, .izx), some (.nop, .imm), some (.sax, .izx),
    some (.sty, .zp), some (.sta, .zp), some (.stx, .zp), some (.sax, .zp),
    some (.dey, .imp), some (.nop, .imm), some (.txa, .imp), none,
    some (.sty, .abs), some (.sta, .abs), some (.stx, .abs), some (.sax, .abs)]
  | 9 => [some (.bcc, .rel), some (.sta, .izy), none, none,
    some (.sty, .zpx), some (.sta, .zpx), some (.stx, .zpy), some (.sax, .zpy),
    some (.tya, .imp), some (.sta, .aby), some (.txs, .imp), none,
    none, some (.sta, .abx), none, none]
  | 10 => [some (.ldy, .imm), some (.lda, .izx), some (.ldx, .imm), some (.lax, .izx),
    some (.ldy, .zp), some (.lda, .zp), some (.ldx, .zp), some (.lax, .zp),
    some (.tay, .imp), some (.lda, .imm), some (.tax, .imp), none,
    some (.ldy, .abs), some (.lda, .abs), some (.ldx, .abs), some (.lax, .abs)]
  | 11 => [some (.bcs, .rel), some (.lda, .izy), none, some (.lax, .izy),
    some (.ldy, .zpx), some (.lda, .zpx), some (.ldx, .zpy), some (.lax, .zpy),
    some (.clv, .imp), some (.lda, .aby), some (.tsx, .imp), none,
    some (.ldy, .abx), some (.lda, .abx), some (.ldx, .aby), some (.lax, .aby)]
  | 12 => [some (.cpy, .imm), some (.cmp, .izx), some (.nop, .imm), some (.dcp, .izx),
    some (.cpy, .zp), some (.cmp, .zp), some (.dec, .zp), some (.dcp, .zp),
    some (.iny, .imp), some (.cmp, .imm), some (.dex, .imp), none,
    some (.cpy, .abs), some (.cmp, .abs), some (.dec, .abs), some (.dcp, .abs)]
  | 13 => [some (.bne, .rel), some (.cmp, .izy), none, some (.dcp, .izy),
    some (.nop, .zpx), some (.cmp, .zpx), some (.dec, .zpx), some (.dcp, .zpx),
    some (.cld, .imp), some (.cmp, .aby), some (.nop, .imp), some (.dcp, .aby),
    some (.nop, .abx), some (.cmp, .abx), some (.dec, .abx), some (.dcp, .abx)]
  | 14 => [some (.cpx, .imm), some (.sbc, .izx), some (.nop, .imm), some (.isb, .izx),
    some (.cpx, .zp), some (.sbc, .zp), some (.inc, .zp), some (.isb, .zp),
    some (.inx, .imp), some (.sbc, .imm), some (.nop, .imp), some (.sbc, .imm),
    some (.cpx, .abs), some (.sbc, .abs), some (.inc, .abs), some (.isb, .abs)]
  | _ => [some (.beq, .rel), some (.sbc, .izy), none, some (.isb, .izy),
    some (.nop, .zpx), some (.sbc, .zpx), some (.inc, .zpx), some (.isb, .zpx),
    some (.sed, .imp), some (.sbc, .aby), some (.nop, .imp), some (.isb, .aby),
    some (.nop, .abx), some (.sbc, .abx), some (.inc, .abx), some (.isb, .abx)]

/-! ### The base cycle counts (40_execute_and_addressing.md R123): base count and `+` mark by class and mode -/

/-- The row of reads. -/
def readCount (k : ModeKind) : Option (Nat × Bool) :=
  match k with
  | .imm => some (2, false)
  | .zp => some (3, false)
  | .zpx | .zpy | .abs => some (4, false)
  | .abx | .aby => some (4, true)
  | .izx => some (6, false)
  | .izy => some (5, true)
  | .imp | .acc | .rel | .ind => none

/-- The row of stores. -/
def storeCount (k : ModeKind) : Option (Nat × Bool) :=
  match k with
  | .zp => some (3, false)
  | .zpx | .zpy | .abs => some (4, false)
  | .abx | .aby => some (5, false)
  | .izx | .izy => some (6, false)
  | .imp | .acc | .imm | .rel | .ind => none

/-- The row of official read-modify-writes. -/
def modifyCount (k : ModeKind) : Option (Nat × Bool) :=
  match k with
  | .acc => some (2, false)
  | .zp => some (5, false)
  | .zpx | .zpy | .abs => some (6, false)
  | .abx => some (7, false)
  | .imp | .imm | .aby | .izx | .izy | .rel | .ind => none

/-- The row of unofficial read-modify-writes. -/
def unofficialModifyCount (k : ModeKind) : Option (Nat × Bool) :=
  match k with
  | .zp => some (5, false)
  | .zpx | .zpy | .abs => some (6, false)
  | .abx | .aby => some (7, false)
  | .izx | .izy => some (8, false)
  | .imp | .acc | .imm | .rel | .ind => none

/-- NOP: the official one and the unofficial forms, an immediate one counted as a read. -/
def nopCount (k : ModeKind) : Option (Nat × Bool) :=
  match k with
  | .imp | .imm => some (2, false)
  | .zp => some (3, false)
  | .zpx | .abs => some (4, false)
  | .abx => some (4, true)
  | .acc | .zpy | .aby | .izx | .izy | .rel | .ind => none

/-- The table of R123 and its individual counts. -/
def baseCount (mn : Mnemonic) (k : ModeKind) : Option (Nat × Bool) :=
  match mn with
  | .lda | .ldx | .ldy | .adc | .sbc | .and | .ora | .eor | .cmp | .cpx | .cpy | .lax => readCount k
  | .sta | .stx | .sty | .sax => storeCount k
  | .asl | .lsr | .rol | .ror | .inc | .dec => modifyCount k
  | .dcp | .isb | .slo | .rla | .sre | .rra => unofficialModifyCount k
  | .inx | .iny | .dex | .dey | .tax | .tay | .txa | .tya | .tsx | .txs => some (2, false)
  | .clc | .sec | .cli | .sei | .cld | .sed | .clv => some (2, false)
  | .nop => nopCount k
  | .bit => if k = .zp then some (3, false) else if k = .abs then some (4, false) else none
  | .jmp => if k = .abs then some (3, false) else if k = .ind then some (5, false) else none
  | .jsr | .rts | .rti => some (6, false)
  | .brk => some (7, false)
  | .pha | .php => some (3, false)
  | .pla | .plp => some (4, false)
  | .bcc | .bcs | .beq | .bmi | .bne | .bpl | .bvc | .bvs => some (2, false)

/-- The flag a branch tests and the value on which it is taken (42_control_flow.md R151-R158); none for every other mnemonic. -/
def branchTest (mn : Mnemonic) : Option (Flag × Bool) :=
  match mn with
  | .bcc => some (.c, false)
  | .bcs => some (.c, true)
  | .bne => some (.z, false)
  | .beq => some (.z, true)
  | .bpl => some (.n, false)
  | .bmi => some (.n, true)
  | .bvc => some (.v, false)
  | .bvs => some (.v, true)
  | .lda | .ldx | .ldy | .adc | .sbc | .and | .ora | .eor | .cmp | .cpx | .cpy | .lax | .bit => none
  | .sta | .stx | .sty | .sax | .asl | .lsr | .rol | .ror | .inc | .dec => none
  | .dcp | .isb | .slo | .rla | .sre | .rra | .inx | .iny | .dex | .dey | .tax | .tay | .txa | .tya | .tsx | .txs => none
  | .clc | .sec | .cli | .sei | .cld | .sed | .clv | .nop | .jmp | .jsr | .rts | .rti | .brk | .pha | .php | .pla | .plp => none

/-- The cycles a branch at `pc0` = `s.pc` adds to its base count (40_execute_and_addressing.md R124): none when not taken, 1 when taken
to a target in the page of `next` = `pc0 + 2`, 2 when taken to another page. An instruction without a relative operand adds none. -/
def takenCycles (d : Descriptor) (s : State) : Nat :=
  match d.mode with
  | .rel b1 =>
    match branchTest d.mnemonic with
    | none => 0
    | some (f, b) =>
      if getFlag f s.p = b then
        if ((s.pc + 2).toNat : Int) / 256 = (((s.pc + 2).toNat + b1.toInt) % 65536) / 256 then 1 else 2
      else 0
  | .imp => 0
  | .acc => 0
  | .imm _ => 0
  | .mem _ => 0
  | .ind _ => 0

/-! ### What a step leaves -/

/-- P becomes `new`: the listed fields have the listed values, every other field the value it had in `old`. -/
def flagsAre (old new : Byte) (fields : List (Flag × Bool)) : Prop :=
  (∀ c ∈ fields, getFlag c.1 new = c.2) ∧ ∀ f, f ∉ fields.map Prod.fst → getFlag f new = getFlag f old

/-- Z and N as the generic update of result `r` leaves them (10_state.md R35). -/
def zn (r : Byte) : List (Flag × Bool) := [(.z, decide (r = 0)), (.n, bitAt 7 r)]

/-- RAM of `t`: the listed cells hold the listed bytes, every other cell what it held in `s`. -/
def ramIs (s t : State) (cells : List (Nat × Byte)) : Prop :=
  (∀ c ∈ cells, ramByte t c.1 = c.2) ∧ ∀ k, k ∉ cells.map Prod.fst → ramByte t k = ramByte s k

/-- An instruction that reads one operand: a fault of that read is the instruction's fault; where the operand can be read the
instruction completes, with effect `eff op s s1 t` (operand, state before, state after the operand's read, state before the Tick). -/
def readsThen (forms : List Form) (eff : Byte → State → State → State → Prop) : Prop :=
  ∀ r ∈ forms, ∀ (i : Instr) (m : Mode) (s : State), r.encodes i m →
    (∀ f, operandOf m s = some (.fault f) → exec i s = .fault f) ∧
    (operandReadable m s = true →
      ∃ op s1 t, operandOf m s = some (.ok op s1) ∧ eff op s s1 t ∧ exec i s = .next (tick (r.total m s) t))

/-- An instruction that makes one write of `val s` at `ea` and no read (R125): a fault of that write is the instruction's fault;
where the write completes the instruction completes, and nothing but the write and the Tick happens. -/
def storesThen (forms : List Form) (val : State → Byte) : Prop :=
  ∀ r ∈ forms, ∀ (i : Instr) (m : MemMode) (s : State), r.encodes i (.mem m) →
    (∀ f, busWrite s.pc (m.ea s) (val s) (s.atNext m.length) = .fault f → exec i s = .fault f) ∧
    (writable (m.ea s) (val s) s = true →
      ∃ s1, busWrite s.pc (m.ea s) (val s) (s.atNext m.length) = .ok () s1 ∧ exec i s = .next (tick (r.total (.mem m) s) s1))

/-- An instruction that reads a byte `v` at `ea` once and then writes `res v s` there once (R125): the fields `pre v` of P are written
between the two; a fault of the read, or of the write, is the instruction's fault; where both complete the instruction completes, with
effect `eff v s s2 t` (byte read, state before, state after the write, state before the Tick). -/
def modifiesThen (forms : List Form) (res : Byte → State → Byte) (pre : Byte → List (Flag × Bool))
    (eff : Byte → State → State → State → Prop) : Prop :=
  ∀ r ∈ forms, ∀ (i : Instr) (m : MemMode) (s : State), r.encodes i (.mem m) →
    (∀ f, operandOf (.mem m) s = some (.fault f) → exec i s = .fault f) ∧
    (∀ v s1 p1 f, operandOf (.mem m) s = some (.ok v s1) → flagsAre s.p p1 (pre v) →
      busWrite s.pc (m.ea s) (res v s) { s1 with p := p1 } = .fault f → exec i s = .fault f) ∧
    (modifiable (m.ea s) s = true →
      ∃ v s1 p1 s2 t, operandOf (.mem m) s = some (.ok v s1) ∧ flagsAre s.p p1 (pre v) ∧
        busWrite s.pc (m.ea s) (res v s) { s1 with p := p1 } = .ok () s2 ∧ eff v s s2 t ∧
        exec i s = .next (tick (r.total (.mem m) s) t))

/-- The common branch rule (42_control_flow.md R150) for one branch: two bytes; not taken PC is `next`, 2 cycles; taken PC is
`next + signed offset` modulo 65536, 3 cycles in the page of `next`, else 4; nothing else changes but by the Tick. -/
def branches (opcode : Byte) (i : Byte → Instr) (cond : State → Bool) : Prop :=
  ∀ (b1 : Byte) (s : State),
    encode (i b1) = [opcode, b1] ∧
    (cond s = false → exec (i b1) s = .next (tick 2 { s with pc := s.pc + 2 })) ∧
    (cond s = true →
      ∃ target : Word, (target.toNat : Int) = ((s.pc + 2).toNat + b1.toInt) % 65536 ∧
        exec (i b1) s =
          .next (tick (if (s.pc + 2).toNat / 256 = target.toNat / 256 then 3 else 4) { s with pc := target }))

/-! ### The cells an instruction stores to, the addresses it accesses -/

/-- The RAM cell a write at `ea` stores to, if `ea` is RAM (20_memory.md R48). -/
def ramCellOf (a : Word) : List Nat := if a.toNat < 0x2000 then [ramIndex a] else []

/-- The RAM cell that the `ea` of a memory mode stores to. -/
def storedAtEa (m : Mode) (s : State) : List Nat :=
  match m with
  | .mem m => ramCellOf (m.ea s)
  | .imp => []
  | .acc => []
  | .imm _ => []
  | .rel _ => []
  | .ind _ => []

/-- The RAM cells the instruction stores to (40_execute_and_addressing.md R120, R125; 42 R160, R162): the cell at `ea`, or stack cells. -/
def ramStores (d : Descriptor) (s : State) : List Nat :=
  match d.mnemonic with
  | .asl | .lsr | .rol | .ror | .inc | .dec | .dcp | .isb | .slo | .rla | .sre | .rra => storedAtEa d.mode s
  | .sta | .stx | .sty | .sax => storedAtEa d.mode s
  | .brk => [stackIndex s.sp, stackIndex (s.sp - 1), stackIndex (s.sp - 2)]
  | .jsr => [stackIndex s.sp, stackIndex (s.sp - 1)]
  | .pha | .php => [stackIndex s.sp]
  | .adc | .and | .bit | .cmp | .cpx | .cpy | .eor | .lax | .lda | .ldx | .ldy | .ora | .sbc => []
  | .bcc | .bcs | .beq | .bmi | .bne | .bpl | .bvc | .bvs | .jmp | .rti | .rts | .nop => []
  | .clc | .cld | .cli | .clv | .sec | .sed | .sei | .pla | .plp => []
  | .dex | .dey | .inx | .iny | .tax | .tay | .tsx | .txa | .txs | .tya => []

/-- The addresses at which the instruction makes a bus access of its own besides the stack, page-zero pointers and vectors (R125):
none for JSR, JMP absolute, branches and the NOPs; the two pointer reads of JMP indirect. -/
def busAddresses (d : Descriptor) (s : State) : List Word :=
  match d.mode with
  | .ind addr => [addr, indirectHigh addr]
  | .mem m => if d.mnemonic = .jmp ∨ d.mnemonic = .jsr ∨ d.mnemonic = .nop then [] else [m.ea s]
  | .imp => []
  | .acc => []
  | .imm _ => []
  | .rel _ => []

/-- The byte of plain memory at `a`: a RAM cell or a PRG ROM byte (20_memory.md R48, R51). -/
def plainByte (s : State) (a : Word) : Byte := if a.toNat < 0x2000 then ramByte s (ramIndex a) else prgByte s.cart a

/-! ### The invariant -/

/-- The PPU's counters, latches and memories are in their ranges (10_state.md R39, 60_exceptions.md R247, R257). -/
structure Ppu.Inv (u : Ppu) : Prop where
  oam : Memory.wf .oam u.oam = true
  vram : Memory.wf .vram u.vram = true
  palette : Memory.wf .palette u.palette = true
  frame : cellsWf 0 61440 u.frame = true
  dot : u.dot < 341
  scanline : u.scanline < 262
  v : u.v.toNat < 0x4000
  status : u.status &&& 0x3F = 0

/-- The invariant of a safe run: every memory in canonical form, the PPU in its ranges, both pads' indexes at most 8 (R40), and the
stored bits 4 and 5 of P as reset leaves them (R32). -/
structure State.Inv (s : State) : Prop where
  ram : Memory.wf .ram s.ram = true
  prg : Memory.wf .prg s.cart.prg = true
  chr : Memory.wf .chr s.cart.chr = true
  ppu : s.ppu.Inv
  pad1 : s.pad1.index ≤ 8
  pad2 : s.pad2.index ≤ 8
  breakBits : s.p &&& 0x30 = 0x20

/-- The step can run an instruction: the run has not ended (60_exceptions.md R230) and the host asks for no stop (R279). -/
abbrev State.enabled (s : State) : Prop := s.fault = none ∧ s.running = true ∧ s.stopRequest = false

/-- The 25 refused opcode bytes of 30_encoding.md R90, in its order. -/
def refusedBytes : List Byte :=
  [0x02, 0x12, 0x22, 0x32, 0x42, 0x52, 0x62, 0x72, 0x92, 0xB2, 0xD2, 0xF2] ++
    [0x0B, 0x2B, 0x4B, 0x6B, 0x8B, 0xAB, 0xCB, 0x93, 0x9F, 0x9C, 0x9E, 0x9B, 0xBB]

end Sys2Proof.Machine
end

