-- ==== Sys2Proof/Certificates/Slice0/Obligations.lean ====
section
/-! DEFINITION. The statements for the provers. Each docstring names the rules of spec/ it formalises; the words it uses beside the
model's own operations (operand forms, what a step leaves in P and RAM, which accesses complete) are those of Safety.lean. -/

open Sys2Proof Sys2Proof.Machine

/-- Decode of encode is the instruction, whatever bytes follow (30_encoding.md R85, R86, R92). -/
def Obligations.DecodeOfEncode : Prop :=
  ∀ (i : Instr) (rest : List Byte), i.wellFormed = true → decode (encode i ++ rest) = .ok (i, rest)

/-- The other direction: no two instructions share a word (30_encoding.md R92; 40_execute_and_addressing.md R102, injective). -/
def Obligations.EncodeOfDecode : Prop :=
  ∀ (bs : List Byte) (i : Instr) (rest : List Byte), decode bs = .ok (i, rest) → bs = encode i ++ rest

/-- The instruction length law (40_execute_and_addressing.md R126). -/
def Obligations.InstructionLengths : Prop :=
  ∀ (i : Instr) (d : Descriptor), descriptor i = some d →
    (encode i).tail = d.mode.operandBytes ∧ (encode i).length = 1 + d.mode.operandBytes.length ∧
    (encode i).length = d.mode.length ∧
    (d.mnemonic ∈ [.brk, .rti, .rts] → (encode i).length = 1) ∧
    (d.mode.kind = .imp ∨ d.mode.kind = .acc → (encode i).length = 1) ∧
    (d.mnemonic ∈ [.jsr, .jmp] → (encode i).length = 3) ∧
    (d.mnemonic ∈ [.bcc, .bcs, .beq, .bmi, .bne, .bpl, .bvc, .bvs] → (encode i).length = 2)

/-- A sanity check on the decoder (30_encoding.md R86, R88; words of 95_test_vectors.md). -/
def Obligations.SpecWordsDecode : Prop :=
  decode [0x69, 0x50] = .ok (.adcImm 0x50, []) ∧ decode [0x71, 0x10] = .ok (.adcIzy 0x10, []) ∧
  decode [0x06, 0x10] = .ok (.aslZp 0x10, []) ∧ decode [0xF0, 0xFC] = .ok (.beq 0xFC, []) ∧
  decode [0x6C, 0xFF, 0x02] = .ok (.jmpInd 0x02FF, []) ∧ decode [0x20, 0x20, 0x80] = .ok (.jsr 0x8020, []) ∧
  decode [0x00] = .ok (.brk, []) ∧ decode [0xBD, 0xF0, 0x02] = .ok (.ldaAbx 0x02F0, []) ∧
  decode [0x96, 0xFF] = .ok (.stxZpy 0xFF, []) ∧ decode [0x48] = .ok (.pha, []) ∧
  decode [0xC7, 0x10] = .ok (.dcpZp 0x10, []) ∧ decode [0xEB, 0xF0] = .ok (.sbcImmEB 0xF0, [])

/-- The opcode map of 30_encoding.md R88, written out row by row; a refused cell is none. -/
def Obligations.OpcodeMap : Prop :=
  ∀ (opc b1 b2 : Byte), ∃ (i : Instr) (rest : List Byte), decode [opc, b1, b2] = .ok (i, rest) ∧
    (descriptor i).map (fun d => (d.mnemonic, d.mode.kind)) = (opcodeMapRow (opc.toNat / 16)).getD (opc.toNat % 16) none

/-- The cycle counts of the machine (40_execute_and_addressing.md R123, R124): what `exec` adds to the cycle total is the count that the
table of R123, written out in Safety.lean (`baseCount`), gives the class and mode, with `+` on a page crossing and the branch cycles of R124. -/
def Obligations.CycleTable : Prop :=
  ∀ (i : Instr) (d : Descriptor), descriptor i = some d →
    baseCount d.mnemonic d.mode.kind = some (d.cycles, d.penalty) ∧
    ∀ s t : State, exec i s = .next t →
      t.cycles = s.cycles + d.cycles + (if d.penalty && d.mode.crossed s then 1 else 0) + takenCycles d s

/-- Refused opcodes (30_encoding.md R90; 40_execute_and_addressing.md R102): `descriptor`, the encoding, `exec` and `step`; the registers
in the record are those of 60_exceptions.md R217. That a refused byte decodes to a one-byte instruction of its own, for which
`wellFormed` is false, is the model's choice (log 19). -/
def Obligations.RefusedOpcodes : Prop :=
  (∀ i : Instr, descriptor i = none ↔ i.wellFormed = false) ∧
  (∀ i : Instr, descriptor i = none → ∃ opc ∈ refusedBytes, encode i = [opc] ∧
    ∀ s : State, exec i s = .fault (.illegalOpcode s.pc opc s.regs)) ∧
  (∀ (opc : Byte) (rest : List Byte) (i : Instr) (rest' : List Byte), decode (opc :: rest) = .ok (i, rest') →
    (descriptor i = none ↔ opc ∈ refusedBytes)) ∧
  ∀ (s s1 : State) (opc : Byte), s.enabled → busRead (pollNmi s).pc (pollNmi s).pc (pollNmi s) = .ok opc s1 → opc ∈ refusedBytes →
    step s = .fault (.illegalOpcode (pollNmi s).pc opc s1.regs)

/-- The resolver's memory modes (40_execute_and_addressing.md R111-R114, R117-R119), in a state whose index registers are those of `s`. -/
def Obligations.EffectiveAddresses : Prop :=
  ∀ (b1 : Byte) (addr : Word) (pc0 : Word) (s : State),
    (MemMode.ea (.zp b1) s).toNat = b1.toNat ∧ MemMode.crossed (.zp b1) s = false ∧
    (MemMode.ea (.zpx b1) s).toNat = (b1.toNat + s.x.toNat) % 256 ∧ MemMode.crossed (.zpx b1) s = false ∧
    (MemMode.ea (.zpy b1) s).toNat = (b1.toNat + s.y.toNat) % 256 ∧ MemMode.crossed (.zpy b1) s = false ∧
    MemMode.ea (.abs addr) s = addr ∧ MemMode.crossed (.abs addr) s = false ∧
    (MemMode.ea (.abx addr) s).toNat = (addr.toNat + s.x.toNat) % 65536 ∧
    MemMode.crossed (.abx addr) s = decide (addr.toNat / 256 ≠ (MemMode.ea (.abx addr) s).toNat / 256) ∧
    (MemMode.ea (.aby addr) s).toNat = (addr.toNat + s.y.toNat) % 65536 ∧
    MemMode.crossed (.aby addr) s = decide (addr.toNat / 256 ≠ (MemMode.ea (.aby addr) s).toNat / 256) ∧
    (∃ lo hi, busRead pc0 (BitVec.ofNat 16 ((b1.toNat + s.x.toNat) % 256)) s = .ok lo s ∧
      busRead pc0 (BitVec.ofNat 16 (((b1.toNat + s.x.toNat) % 256 + 1) % 256)) s = .ok hi s ∧
      (MemMode.ea (.izx b1) s).toNat = 256 * hi.toNat + lo.toNat ∧ MemMode.crossed (.izx b1) s = false) ∧
    (∃ lo hi, busRead pc0 (BitVec.ofNat 16 b1.toNat) s = .ok lo s ∧ busRead pc0 (BitVec.ofNat 16 ((b1.toNat + 1) % 256)) s = .ok hi s ∧
      (MemMode.ea (.izy b1) s).toNat = (256 * hi.toNat + lo.toNat + s.y.toNat) % 65536 ∧
      MemMode.crossed (.izy b1) s = decide (hi.toNat ≠ (MemMode.ea (.izy b1) s).toNat / 256)) ∧
    Mode.crossed .imp s = false ∧ Mode.crossed .acc s = false ∧ Mode.crossed (.imm b1) s = false ∧
    Mode.crossed (.rel b1) s = false ∧ Mode.crossed (.ind addr) s = false

/-- One iteration of the run loop (40_execute_and_addressing.md R100, R101): what `step` adds around `exec` is the NMI poll and the fetch
reads. That `exec` is entered with PC at the opcode, and itself sets `PC <- next` and ticks, is the model's convention (log 10). -/
def Obligations.StepRunsDecoded : Prop :=
  ∀ (s u : State), s.enabled → u = pollNmi s →
    (∀ f, busRead u.pc u.pc u = .fault f → step s = .fault f) ∧
    (∀ opc s1 i, busRead u.pc u.pc u = .ok opc s1 → decode [opc] = .ok (i, []) → step s = exec i s1) ∧
    (∀ opc s1 f, busRead u.pc u.pc u = .ok opc s1 → decode [opc] = .error .truncated → busRead u.pc (u.pc + 1) s1 = .fault f →
      step s = .fault f) ∧
    (∀ opc s1 b1 s2 i, busRead u.pc u.pc u = .ok opc s1 → busRead u.pc (u.pc + 1) s1 = .ok b1 s2 →
      decode [opc, b1] = .ok (i, []) → step s = exec i s2) ∧
    (∀ opc s1 b1 s2 f, busRead u.pc u.pc u = .ok opc s1 → busRead u.pc (u.pc + 1) s1 = .ok b1 s2 →
      decode [opc, b1] = .error .truncated → busRead u.pc (u.pc + 2) s2 = .fault f → step s = .fault f) ∧
    (∀ opc s1 b1 s2 b2 s3 i, busRead u.pc u.pc u = .ok opc s1 → busRead u.pc (u.pc + 1) s1 = .ok b1 s2 →
      busRead u.pc (u.pc + 2) s2 = .ok b2 s3 → decode [opc, b1, b2] = .ok (i, []) → step s = exec i s3)

/-- The end of a run (60_exceptions.md R230); that a halted step is a next state and a recorded fault is answered again is the model's
choice (logs 2, 3). -/
def Obligations.RunEnded : Prop :=
  ∀ s : State, (s.fault = none → s.running = false → step s = .next s) ∧ (∀ f, s.fault = some f → step s = .fault f)

/-- The external stop request (60_exceptions.md R279); the field that holds it is the model's own (log 8). -/
def Obligations.HostStop : Prop :=
  ∀ s : State, s.fault = none → s.running = true →
    step s.requestStop = .next { s with running := false, stopRequest := false }

/-- The NMI poll and `NmiService` (60_exceptions.md R222-R224): a Tick that raises the NMI again leaves it pending for the next step. -/
def Obligations.NmiService : Prop :=
  (∀ s : State, s.ppu.nmiPending = false → pollNmi s = s) ∧
  ∀ s : State, s.ppu.nmiPending = true →
    ∃ t : State, pollNmi s = { tick 2 t with pc := mk16 (prgByte s.cart 0xFFFB) (prgByte s.cart 0xFFFA) } ∧
      t = { s with sp := s.sp - 3, p := t.p, ram := t.ram, ppu := { s.ppu with nmiPending := false } } ∧
      flagsAre s.p t.p [(.i, true)] ∧
      ramIs s t [(stackIndex s.sp, hiByte s.pc), (stackIndex (s.sp - 1), loByte s.pc),
        (stackIndex (s.sp - 2), (s.p &&& 0xEF) ||| 0x20)]

/-- BRK (42_control_flow.md R162), in both settings of `BRK_MODE`. -/
def Obligations.BrkPushesAndVectors : Prop :=
  encode .brk = [0x00] ∧ ∀ s : State, ∃ t : State, exec .brk s = .next (tick 7 t) ∧
    (s.params.brkMode = .vector →
      t = { s with pc := mk16 (prgByte s.cart 0xFFFF) (prgByte s.cart 0xFFFE), sp := s.sp - 3, p := t.p, ram := t.ram }) ∧
    (s.params.brkMode = .halt → t = { s with pc := s.pc + 1, sp := s.sp - 3, p := t.p, ram := t.ram, running := false }) ∧
    flagsAre s.p t.p [(.i, true)] ∧
    ramIs s t [(stackIndex s.sp, hiByte (s.pc + 2)), (stackIndex (s.sp - 1), loByte (s.pc + 2)),
      (stackIndex (s.sp - 2), s.p ||| 0x30)]

/-- RTI (42_control_flow.md R163; 60_exceptions.md R228). -/
def Obligations.RtiRestoresStatusAndPc : Prop :=
  encode .rti = [0x40] ∧ ∀ s : State, ∃ p' : Byte,
    exec .rti s = .next (tick 6 { s with
      sp := s.sp + 3
      p := p'
      pc := mk16 (ramByte s (stackIndex (s.sp + 3))) (ramByte s (stackIndex (s.sp + 2))) }) ∧
    (∀ f : Flag, getFlag f p' = if f = .b1 ∨ f = .b2 then getFlag f s.p else getFlag f (ramByte s (stackIndex (s.sp + 1))))

/-- JSR and RTS (42_control_flow.md R160, R161). -/
def Obligations.JsrRts : Prop :=
  (∀ (addr : Word) (s : State), encode (.jsr addr) = [0x20, loByte addr, hiByte addr] ∧
    ∃ t : State, exec (.jsr addr) s = .next (tick 6 t) ∧
      t = { s with pc := addr, sp := s.sp - 2, ram := t.ram } ∧
      ramIs s t [(stackIndex s.sp, hiByte (s.pc + 2)), (stackIndex (s.sp - 1), loByte (s.pc + 2))]) ∧
  encode .rts = [0x60] ∧ ∀ s : State,
    exec .rts s = .next (tick 6 { s with
      sp := s.sp + 2
      pc := mk16 (ramByte s (stackIndex (s.sp + 2))) (ramByte s (stackIndex (s.sp + 1))) + 1 })

/-- The branches (42_control_flow.md R150-R158; 40_execute_and_addressing.md R115, R124). -/
def Obligations.Branches : Prop :=
  branches 0x90 .bcc (fun s => !getFlag .c s.p) ∧ branches 0xB0 .bcs (fun s => getFlag .c s.p) ∧
  branches 0xF0 .beq (fun s => getFlag .z s.p) ∧ branches 0x30 .bmi (fun s => getFlag .n s.p) ∧
  branches 0xD0 .bne (fun s => !getFlag .z s.p) ∧ branches 0x10 .bpl (fun s => !getFlag .n s.p) ∧
  branches 0x50 .bvc (fun s => !getFlag .v s.p) ∧ branches 0x70 .bvs (fun s => getFlag .v s.p)

/-- JMP (42_control_flow.md R159; 40_execute_and_addressing.md R116). -/
def Obligations.JmpTargets : Prop :=
  (∀ (addr : Word) (s : State), encode (.jmpAbs addr) = [0x4C, loByte addr, hiByte addr] ∧
    exec (.jmpAbs addr) s = .next (tick 3 { s with pc := addr })) ∧
  ∀ (addr hiAddr : Word) (s : State), hiAddr.toNat = addr.toNat / 256 * 256 + (addr.toNat % 256 + 1) % 256 →
    encode (.jmpInd addr) = [0x6C, loByte addr, hiByte addr] ∧
    (∀ f, busRead s.pc addr { s with pc := s.pc + 3 } = .fault f → exec (.jmpInd addr) s = .fault f) ∧
    (∀ lo s1 f, busRead s.pc addr { s with pc := s.pc + 3 } = .ok lo s1 → busRead s.pc hiAddr s1 = .fault f →
      exec (.jmpInd addr) s = .fault f) ∧
    (readable addr = true → readable hiAddr = true →
      ∃ lo s1 hi s2, busRead s.pc addr { s with pc := s.pc + 3 } = .ok lo s1 ∧ busRead s.pc hiAddr s1 = .ok hi s2 ∧
        exec (.jmpInd addr) s = .next (tick 5 { s2 with pc := mk16 hi lo }))

/-- LDA, LDX, LDY, LAX (43_load_store_stack_flags.md R170-R172; 44_unofficial.md R201). -/
def Obligations.Loads : Prop :=
  readsThen
    [⟨0xA9, .imm, 2, false⟩, ⟨0xA5, .zp, 3, false⟩, ⟨0xB5, .zpx, 4, false⟩, ⟨0xAD, .abs, 4, false⟩,
     ⟨0xBD, .abx, 4, true⟩, ⟨0xB9, .aby, 4, true⟩, ⟨0xA1, .izx, 6, false⟩, ⟨0xB1, .izy, 5, true⟩]
    (fun op s s1 t => t = { s1 with a := op, p := t.p } ∧ flagsAre s.p t.p (zn op)) ∧
  readsThen
    [⟨0xA2, .imm, 2, false⟩, ⟨0xA6, .zp, 3, false⟩, ⟨0xB6, .zpy, 4, false⟩, ⟨0xAE, .abs, 4, false⟩,
     ⟨0xBE, .aby, 4, true⟩]
    (fun op s s1 t => t = { s1 with x := op, p := t.p } ∧ flagsAre s.p t.p (zn op)) ∧
  readsThen
    [⟨0xA0, .imm, 2, false⟩, ⟨0xA4, .zp, 3, false⟩, ⟨0xB4, .zpx, 4, false⟩, ⟨0xAC, .abs, 4, false⟩,
     ⟨0xBC, .abx, 4, true⟩]
    (fun op s s1 t => t = { s1 with y := op, p := t.p } ∧ flagsAre s.p t.p (zn op)) ∧
  readsThen
    [⟨0xA7, .zp, 3, false⟩, ⟨0xB7, .zpy, 4, false⟩, ⟨0xAF, .abs, 4, false⟩, ⟨0xBF, .aby, 4, true⟩,
     ⟨0xA3, .izx, 6, false⟩, ⟨0xB3, .izy, 5, true⟩]
    (fun op s s1 t => t = { s1 with a := op, x := op, p := t.p } ∧ flagsAre s.p t.p (zn op))

/-- STA, STX, STY, SAX (43_load_store_stack_flags.md R173-R175; 44_unofficial.md R202). -/
def Obligations.Stores : Prop :=
  storesThen
    [⟨0x85, .zp, 3, false⟩, ⟨0x95, .zpx, 4, false⟩, ⟨0x8D, .abs, 4, false⟩, ⟨0x9D, .abx, 5, false⟩,
     ⟨0x99, .aby, 5, false⟩, ⟨0x81, .izx, 6, false⟩, ⟨0x91, .izy, 6, false⟩]
    (fun s => s.a) ∧
  storesThen [⟨0x86, .zp, 3, false⟩, ⟨0x96, .zpy, 4, false⟩, ⟨0x8E, .abs, 4, false⟩] (fun s => s.x) ∧
  storesThen [⟨0x84, .zp, 3, false⟩, ⟨0x94, .zpx, 4, false⟩, ⟨0x8C, .abs, 4, false⟩] (fun s => s.y) ∧
  storesThen
    [⟨0x87, .zp, 3, false⟩, ⟨0x97, .zpy, 4, false⟩, ⟨0x8F, .abs, 4, false⟩, ⟨0x83, .izx, 6, false⟩]
    (fun s => s.a &&& s.x)

/-- The transfers (43_load_store_stack_flags.md R176-R181). -/
def Obligations.Transfers : Prop :=
  (encode .tax = [0xAA] ∧ ∀ s : State, ∃ p', exec .tax s = .next (tick 2 { s with pc := s.pc + 1, x := s.a, p := p' }) ∧
    flagsAre s.p p' (zn s.a)) ∧
  (encode .tay = [0xA8] ∧ ∀ s : State, ∃ p', exec .tay s = .next (tick 2 { s with pc := s.pc + 1, y := s.a, p := p' }) ∧
    flagsAre s.p p' (zn s.a)) ∧
  (encode .txa = [0x8A] ∧ ∀ s : State, ∃ p', exec .txa s = .next (tick 2 { s with pc := s.pc + 1, a := s.x, p := p' }) ∧
    flagsAre s.p p' (zn s.x)) ∧
  (encode .tya = [0x98] ∧ ∀ s : State, ∃ p', exec .tya s = .next (tick 2 { s with pc := s.pc + 1, a := s.y, p := p' }) ∧
    flagsAre s.p p' (zn s.y)) ∧
  (encode .tsx = [0xBA] ∧ ∀ s : State, ∃ p', exec .tsx s = .next (tick 2 { s with pc := s.pc + 1, x := s.sp, p := p' }) ∧
    flagsAre s.p p' (zn s.sp)) ∧
  (encode .txs = [0x9A] ∧ ∀ s : State, exec .txs s = .next (tick 2 { s with pc := s.pc + 1, sp := s.x }))

/-- PHA and PHP (43_load_store_stack_flags.md R182, R183) over `Push` (40_execute_and_addressing.md R120): the bus write at 0x0100 + SP. -/
def Obligations.Pushes : Prop :=
  (∀ (pc0 : Word) (v : Byte) (s : State), ∃ t : State,
    busWrite pc0 (0x0100 + zext16 s.sp) v s = .ok () t ∧ push v s = { t with sp := s.sp - 1 }) ∧
  (encode .pha = [0x48] ∧ ∀ s : State, ∃ t : State, exec .pha s = .next (tick 3 t) ∧
    t = { s with pc := s.pc + 1, sp := s.sp - 1, ram := t.ram } ∧ ramIs s t [(stackIndex s.sp, s.a)]) ∧
  (encode .php = [0x08] ∧ ∀ s : State, ∃ t : State, exec .php s = .next (tick 3 t) ∧
    t = { s with pc := s.pc + 1, sp := s.sp - 1, ram := t.ram } ∧ ramIs s t [(stackIndex s.sp, s.p ||| 0x30)])

/-- PLA and PLP (43_load_store_stack_flags.md R184, R185) over `Pull` (40_execute_and_addressing.md R121). -/
def Obligations.Pulls : Prop :=
  (∀ (pc0 : Word) (s : State), busRead pc0 (0x0100 + zext16 (s.sp + 1)) { s with sp := s.sp + 1 } = .ok (pulled s) (afterPull s)) ∧
  (∀ s : State, pulled s = ramByte s (stackIndex (s.sp + 1)) ∧ afterPull s = { s with sp := s.sp + 1 }) ∧
  (encode .pla = [0x68] ∧ ∀ s : State, ∃ p', exec .pla s =
      .next (tick 4 { s with pc := s.pc + 1, sp := s.sp + 1, a := ramByte s (stackIndex (s.sp + 1)), p := p' }) ∧
    flagsAre s.p p' (zn (ramByte s (stackIndex (s.sp + 1))))) ∧
  (encode .plp = [0x28] ∧ ∀ s : State, ∃ p', exec .plp s = .next (tick 4 { s with pc := s.pc + 1, sp := s.sp + 1, p := p' }) ∧
    ∀ f : Flag, getFlag f p' = if f = .b1 ∨ f = .b2 then getFlag f s.p else getFlag f (ramByte s (stackIndex (s.sp + 1))))

/-- The flag instructions (43_load_store_stack_flags.md R186-R192). -/
def Obligations.FlagInstructions : Prop :=
  (encode .clc = [0x18] ∧ ∀ s : State, ∃ p', exec .clc s = .next (tick 2 { s with pc := s.pc + 1, p := p' }) ∧
    flagsAre s.p p' [(.c, false)]) ∧
  (encode .sec = [0x38] ∧ ∀ s : State, ∃ p', exec .sec s = .next (tick 2 { s with pc := s.pc + 1, p := p' }) ∧
    flagsAre s.p p' [(.c, true)]) ∧
  (encode .cli = [0x58] ∧ ∀ s : State, ∃ p', exec .cli s = .next (tick 2 { s with pc := s.pc + 1, p := p' }) ∧
    flagsAre s.p p' [(.i, false)]) ∧
  (encode .sei = [0x78] ∧ ∀ s : State, ∃ p', exec .sei s = .next (tick 2 { s with pc := s.pc + 1, p := p' }) ∧
    flagsAre s.p p' [(.i, true)]) ∧
  (encode .cld = [0xD8] ∧ ∀ s : State, ∃ p', exec .cld s = .next (tick 2 { s with pc := s.pc + 1, p := p' }) ∧
    flagsAre s.p p' [(.d, false)]) ∧
  (encode .sed = [0xF8] ∧ ∀ s : State, ∃ p', exec .sed s = .next (tick 2 { s with pc := s.pc + 1, p := p' }) ∧
    flagsAre s.p p' [(.d, true)]) ∧
  (encode .clv = [0xB8] ∧ ∀ s : State, ∃ p', exec .clv s = .next (tick 2 { s with pc := s.pc + 1, p := p' }) ∧
    flagsAre s.p p' [(.v, false)])

/-- NOP and the unofficial NOPs (43_load_store_stack_flags.md R193; 44_unofficial.md R200). -/
def Obligations.Nops : Prop :=
  (encode .nop = [0xEA] ∧ ∀ s : State, exec .nop s = .next (tick 2 { s with pc := s.pc + 1 })) ∧
  ∀ r ∈ ([⟨0x1A, .imp, 2, false⟩, ⟨0x3A, .imp, 2, false⟩, ⟨0x5A, .imp, 2, false⟩, ⟨0x7A, .imp, 2, false⟩,
    ⟨0xDA, .imp, 2, false⟩, ⟨0xFA, .imp, 2, false⟩, ⟨0x80, .imm, 2, false⟩, ⟨0x82, .imm, 2, false⟩,
    ⟨0x89, .imm, 2, false⟩, ⟨0xC2, .imm, 2, false⟩, ⟨0xE2, .imm, 2, false⟩, ⟨0x04, .zp, 3, false⟩,
    ⟨0x44, .zp, 3, false⟩, ⟨0x64, .zp, 3, false⟩, ⟨0x14, .zpx, 4, false⟩, ⟨0x34, .zpx, 4, false⟩,
    ⟨0x54, .zpx, 4, false⟩, ⟨0x74, .zpx, 4, false⟩, ⟨0xD4, .zpx, 4, false⟩, ⟨0xF4, .zpx, 4, false⟩,
    ⟨0x0C, .abs, 4, false⟩, ⟨0x1C, .abx, 4, true⟩, ⟨0x3C, .abx, 4, true⟩, ⟨0x5C, .abx, 4, true⟩,
    ⟨0x7C, .abx, 4, true⟩, ⟨0xDC, .abx, 4, true⟩, ⟨0xFC, .abx, 4, true⟩] : List Form),
    ∀ (i : Instr) (m : Mode) (s : State), r.encodes i m →
      exec i s = .next (tick (r.total m s) { s with pc := s.pc + BitVec.ofNat 16 m.length })

/-- ADC (41_alu.md R130; binary whatever D holds, 10_state.md R31). -/
def Obligations.AdcResultAndFlags : Prop :=
  readsThen
    [⟨0x69, .imm, 2, false⟩, ⟨0x65, .zp, 3, false⟩, ⟨0x75, .zpx, 4, false⟩, ⟨0x6D, .abs, 4, false⟩,
     ⟨0x7D, .abx, 4, true⟩, ⟨0x79, .aby, 4, true⟩, ⟨0x61, .izx, 6, false⟩, ⟨0x71, .izy, 5, true⟩]
    (fun op s s1 t =>
      let sum := s.a.toNat + op.toNat + (getFlag .c s.p).toNat
      let r := BitVec.ofNat 8 (sum % 256)
      t = { s1 with a := r, p := t.p } ∧
      flagsAre s.p t.p ((.c, decide (sum > 255)) :: (.v, (bitAt 7 s.a == bitAt 7 op) && (bitAt 7 r != bitAt 7 s.a)) :: zn r))

/-- SBC (41_alu.md R131; 44_unofficial.md R209). -/
def Obligations.SbcResultAndFlags : Prop :=
  readsThen
    [⟨0xE9, .imm, 2, false⟩, ⟨0xE5, .zp, 3, false⟩, ⟨0xF5, .zpx, 4, false⟩, ⟨0xED, .abs, 4, false⟩,
     ⟨0xFD, .abx, 4, true⟩, ⟨0xF9, .aby, 4, true⟩, ⟨0xE1, .izx, 6, false⟩, ⟨0xF1, .izy, 5, true⟩,
     ⟨0xEB, .imm, 2, false⟩]
    (fun op s s1 t =>
      let r := BitVec.ofInt 8 ((s.a.toNat : Int) - op.toNat - (1 - (getFlag .c s.p).toNat))
      t = { s1 with a := r, p := t.p } ∧
      flagsAre s.p t.p ((.c, decide (op.toNat + 1 ≤ s.a.toNat + (getFlag .c s.p).toNat)) ::
        (.v, (bitAt 7 s.a == !bitAt 7 op) && (bitAt 7 r != bitAt 7 s.a)) :: zn r))

/-- AND, ORA, EOR (41_alu.md R132-R134). -/
def Obligations.Logic : Prop :=
  readsThen
    [⟨0x29, .imm, 2, false⟩, ⟨0x25, .zp, 3, false⟩, ⟨0x35, .zpx, 4, false⟩, ⟨0x2D, .abs, 4, false⟩,
     ⟨0x3D, .abx, 4, true⟩, ⟨0x39, .aby, 4, true⟩, ⟨0x21, .izx, 6, false⟩, ⟨0x31, .izy, 5, true⟩]
    (fun op s s1 t => t = { s1 with a := s.a &&& op, p := t.p } ∧ flagsAre s.p t.p (zn (s.a &&& op))) ∧
  readsThen
    [⟨0x09, .imm, 2, false⟩, ⟨0x05, .zp, 3, false⟩, ⟨0x15, .zpx, 4, false⟩, ⟨0x0D, .abs, 4, false⟩,
     ⟨0x1D, .abx, 4, true⟩, ⟨0x19, .aby, 4, true⟩, ⟨0x01, .izx, 6, false⟩, ⟨0x11, .izy, 5, true⟩]
    (fun op s s1 t => t = { s1 with a := s.a ||| op, p := t.p } ∧ flagsAre s.p t.p (zn (s.a ||| op))) ∧
  readsThen
    [⟨0x49, .imm, 2, false⟩, ⟨0x45, .zp, 3, false⟩, ⟨0x55, .zpx, 4, false⟩, ⟨0x4D, .abs, 4, false⟩,
     ⟨0x5D, .abx, 4, true⟩, ⟨0x59, .aby, 4, true⟩, ⟨0x41, .izx, 6, false⟩, ⟨0x51, .izy, 5, true⟩]
    (fun op s s1 t => t = { s1 with a := s.a ^^^ op, p := t.p } ∧ flagsAre s.p t.p (zn (s.a ^^^ op)))

/-- BIT (41_alu.md R135). -/
def Obligations.BitResultAndFlags : Prop :=
  readsThen [⟨0x24, .zp, 3, false⟩, ⟨0x2C, .abs, 4, false⟩]
    (fun op s s1 t => t = { s1 with p := t.p } ∧
      flagsAre s.p t.p [(.z, decide (s.a &&& op = 0)), (.n, bitAt 7 op), (.v, bitAt 6 op)])

/-- CMP, CPX, CPY (41_alu.md R136-R138). -/
def Obligations.Compare : Prop :=
  readsThen
    [⟨0xC9, .imm, 2, false⟩, ⟨0xC5, .zp, 3, false⟩, ⟨0xD5, .zpx, 4, false⟩, ⟨0xCD, .abs, 4, false⟩,
     ⟨0xDD, .abx, 4, true⟩, ⟨0xD9, .aby, 4, true⟩, ⟨0xC1, .izx, 6, false⟩, ⟨0xD1, .izy, 5, true⟩]
    (fun op s s1 t => t = { s1 with p := t.p } ∧
      flagsAre s.p t.p [(.c, decide (op.toNat ≤ s.a.toNat)), (.z, decide (s.a = op)), (.n, bitAt 7 (s.a - op))]) ∧
  readsThen
    [⟨0xE0, .imm, 2, false⟩, ⟨0xE4, .zp, 3, false⟩, ⟨0xEC, .abs, 4, false⟩]
    (fun op s s1 t => t = { s1 with p := t.p } ∧
      flagsAre s.p t.p [(.c, decide (op.toNat ≤ s.x.toNat)), (.z, decide (s.x = op)), (.n, bitAt 7 (s.x - op))]) ∧
  readsThen
    [⟨0xC0, .imm, 2, false⟩, ⟨0xC4, .zp, 3, false⟩, ⟨0xCC, .abs, 4, false⟩]
    (fun op s s1 t => t = { s1 with p := t.p } ∧
      flagsAre s.p t.p [(.c, decide (op.toNat ≤ s.y.toNat)), (.z, decide (s.y = op)), (.n, bitAt 7 (s.y - op))])

/-- INC, DEC (41_alu.md R139, R140). -/
def Obligations.IncDecMemory : Prop :=
  modifiesThen
    [⟨0xE6, .zp, 5, false⟩, ⟨0xF6, .zpx, 6, false⟩, ⟨0xEE, .abs, 6, false⟩, ⟨0xFE, .abx, 7, false⟩]
    (fun v _ => v + 1) (fun _ => []) (fun v s s2 t => t = { s2 with p := t.p } ∧ flagsAre s.p t.p (zn (v + 1))) ∧
  modifiesThen
    [⟨0xC6, .zp, 5, false⟩, ⟨0xD6, .zpx, 6, false⟩, ⟨0xCE, .abs, 6, false⟩, ⟨0xDE, .abx, 7, false⟩]
    (fun v _ => v - 1) (fun _ => []) (fun v s s2 t => t = { s2 with p := t.p } ∧ flagsAre s.p t.p (zn (v - 1)))

/-- INX, INY, DEX, DEY (41_alu.md R141-R144). -/
def Obligations.IncDecRegisters : Prop :=
  (encode .inx = [0xE8] ∧ ∀ s : State, ∃ p', exec .inx s = .next (tick 2 { s with pc := s.pc + 1, x := s.x + 1, p := p' }) ∧
    flagsAre s.p p' (zn (s.x + 1))) ∧
  (encode .iny = [0xC8] ∧ ∀ s : State, ∃ p', exec .iny s = .next (tick 2 { s with pc := s.pc + 1, y := s.y + 1, p := p' }) ∧
    flagsAre s.p p' (zn (s.y + 1))) ∧
  (encode .dex = [0xCA] ∧ ∀ s : State, ∃ p', exec .dex s = .next (tick 2 { s with pc := s.pc + 1, x := s.x - 1, p := p' }) ∧
    flagsAre s.p p' (zn (s.x - 1))) ∧
  (encode .dey = [0x88] ∧ ∀ s : State, ∃ p', exec .dey s = .next (tick 2 { s with pc := s.pc + 1, y := s.y - 1, p := p' }) ∧
    flagsAre s.p p' (zn (s.y - 1)))

/-- ASL, LSR, ROL, ROR (41_alu.md R145-R148). -/
def Obligations.Shifts : Prop :=
  modifiesThen
    [⟨0x06, .zp, 5, false⟩, ⟨0x16, .zpx, 6, false⟩, ⟨0x0E, .abs, 6, false⟩, ⟨0x1E, .abx, 7, false⟩]
    (fun v _ => BitVec.ofNat 8 (2 * v.toNat)) (fun _ => [])
    (fun v s s2 t => t = { s2 with p := t.p } ∧ flagsAre s.p t.p ((.c, bitAt 7 v) :: zn (BitVec.ofNat 8 (2 * v.toNat)))) ∧
  modifiesThen
    [⟨0x46, .zp, 5, false⟩, ⟨0x56, .zpx, 6, false⟩, ⟨0x4E, .abs, 6, false⟩, ⟨0x5E, .abx, 7, false⟩]
    (fun v _ => BitVec.ofNat 8 (v.toNat / 2)) (fun _ => [])
    (fun v s s2 t => t = { s2 with p := t.p } ∧ flagsAre s.p t.p ((.c, bitAt 0 v) :: zn (BitVec.ofNat 8 (v.toNat / 2)))) ∧
  modifiesThen
    [⟨0x26, .zp, 5, false⟩, ⟨0x36, .zpx, 6, false⟩, ⟨0x2E, .abs, 6, false⟩, ⟨0x3E, .abx, 7, false⟩]
    (fun v s => BitVec.ofNat 8 (2 * v.toNat + (getFlag .c s.p).toNat)) (fun _ => [])
    (fun v s s2 t => t = { s2 with p := t.p } ∧ flagsAre s.p t.p ((.c, bitAt 7 v) :: zn (BitVec.ofNat 8 (2 * v.toNat + (getFlag .c s.p).toNat)))) ∧
  modifiesThen
    [⟨0x66, .zp, 5, false⟩, ⟨0x76, .zpx, 6, false⟩, ⟨0x6E, .abs, 6, false⟩, ⟨0x7E, .abx, 7, false⟩]
    (fun v s => BitVec.ofNat 8 (v.toNat / 2 + 128 * (getFlag .c s.p).toNat)) (fun _ => [])
    (fun v s s2 t => t = { s2 with p := t.p } ∧ flagsAre s.p t.p ((.c, bitAt 0 v) :: zn (BitVec.ofNat 8 (v.toNat / 2 + 128 * (getFlag .c s.p).toNat)))) ∧
  (encode .aslAcc = [0x0A] ∧ ∀ s : State, ∃ p',
    exec .aslAcc s = .next (tick 2 { s with pc := s.pc + 1, a := BitVec.ofNat 8 (2 * s.a.toNat), p := p' }) ∧
    flagsAre s.p p' ((.c, bitAt 7 s.a) :: zn (BitVec.ofNat 8 (2 * s.a.toNat)))) ∧
  (encode .lsrAcc = [0x4A] ∧ ∀ s : State, ∃ p',
    exec .lsrAcc s = .next (tick 2 { s with pc := s.pc + 1, a := BitVec.ofNat 8 (s.a.toNat / 2), p := p' }) ∧
    flagsAre s.p p' ((.c, bitAt 0 s.a) :: zn (BitVec.ofNat 8 (s.a.toNat / 2)))) ∧
  (encode .rolAcc = [0x2A] ∧ ∀ s : State, ∃ p',
    exec .rolAcc s = .next (tick 2 { s with pc := s.pc + 1, a := BitVec.ofNat 8 (2 * s.a.toNat + (getFlag .c s.p).toNat), p := p' }) ∧
    flagsAre s.p p' ((.c, bitAt 7 s.a) :: zn (BitVec.ofNat 8 (2 * s.a.toNat + (getFlag .c s.p).toNat)))) ∧
  (encode .rorAcc = [0x6A] ∧ ∀ s : State, ∃ p',
    exec .rorAcc s = .next (tick 2 { s with pc := s.pc + 1, a := BitVec.ofNat 8 (s.a.toNat / 2 + 128 * (getFlag .c s.p).toNat), p := p' }) ∧
    flagsAre s.p p' ((.c, bitAt 0 s.a) :: zn (BitVec.ofNat 8 (s.a.toNat / 2 + 128 * (getFlag .c s.p).toNat))))

/-- DCP, ISB (44_unofficial.md R203, R204). -/
def Obligations.DcpIsb : Prop :=
  modifiesThen
    [⟨0xC7, .zp, 5, false⟩, ⟨0xD7, .zpx, 6, false⟩, ⟨0xCF, .abs, 6, false⟩, ⟨0xDF, .abx, 7, false⟩,
     ⟨0xDB, .aby, 7, false⟩, ⟨0xC3, .izx, 8, false⟩, ⟨0xD3, .izy, 8, false⟩]
    (fun v _ => v - 1) (fun _ => [])
    (fun v s s2 t => t = { s2 with p := t.p } ∧
      flagsAre s.p t.p [(.c, decide ((v - 1).toNat ≤ s.a.toNat)), (.z, decide (s.a = v - 1)), (.n, bitAt 7 (s.a - (v - 1)))]) ∧
  modifiesThen
    [⟨0xE7, .zp, 5, false⟩, ⟨0xF7, .zpx, 6, false⟩, ⟨0xEF, .abs, 6, false⟩, ⟨0xFF, .abx, 7, false⟩,
     ⟨0xFB, .aby, 7, false⟩, ⟨0xE3, .izx, 8, false⟩, ⟨0xF3, .izy, 8, false⟩]
    (fun v _ => v + 1) (fun _ => [])
    (fun v s s2 t =>
      let m := v + 1
      let r := BitVec.ofInt 8 ((s.a.toNat : Int) - m.toNat - (1 - (getFlag .c s.p).toNat))
      t = { s2 with a := r, p := t.p } ∧
      flagsAre s.p t.p ((.c, decide (m.toNat + 1 ≤ s.a.toNat + (getFlag .c s.p).toNat)) ::
        (.v, (bitAt 7 s.a == !bitAt 7 m) && (bitAt 7 r != bitAt 7 s.a)) :: zn r))

/-- SLO, RLA (44_unofficial.md R205, R206): C is written before the memory write. -/
def Obligations.SloRla : Prop :=
  modifiesThen
    [⟨0x07, .zp, 5, false⟩, ⟨0x17, .zpx, 6, false⟩, ⟨0x0F, .abs, 6, false⟩, ⟨0x1F, .abx, 7, false⟩,
     ⟨0x1B, .aby, 7, false⟩, ⟨0x03, .izx, 8, false⟩, ⟨0x13, .izy, 8, false⟩]
    (fun v _ => BitVec.ofNat 8 (2 * v.toNat)) (fun v => [(.c, bitAt 7 v)])
    (fun v s s2 t =>
      let a' := s.a ||| BitVec.ofNat 8 (2 * v.toNat)
      t = { s2 with a := a', p := t.p } ∧ flagsAre s.p t.p ((.c, bitAt 7 v) :: zn a')) ∧
  modifiesThen
    [⟨0x27, .zp, 5, false⟩, ⟨0x37, .zpx, 6, false⟩, ⟨0x2F, .abs, 6, false⟩, ⟨0x3F, .abx, 7, false⟩,
     ⟨0x3B, .aby, 7, false⟩, ⟨0x23, .izx, 8, false⟩, ⟨0x33, .izy, 8, false⟩]
    (fun v s => BitVec.ofNat 8 (2 * v.toNat + (getFlag .c s.p).toNat)) (fun v => [(.c, bitAt 7 v)])
    (fun v s s2 t =>
      let a' := s.a &&& BitVec.ofNat 8 (2 * v.toNat + (getFlag .c s.p).toNat)
      t = { s2 with a := a', p := t.p } ∧ flagsAre s.p t.p ((.c, bitAt 7 v) :: zn a'))

/-- SRE, RRA (44_unofficial.md R207, R208): C is written before the memory write. -/
def Obligations.SreRra : Prop :=
  modifiesThen
    [⟨0x47, .zp, 5, false⟩, ⟨0x57, .zpx, 6, false⟩, ⟨0x4F, .abs, 6, false⟩, ⟨0x5F, .abx, 7, false⟩,
     ⟨0x5B, .aby, 7, false⟩, ⟨0x43, .izx, 8, false⟩, ⟨0x53, .izy, 8, false⟩]
    (fun v _ => BitVec.ofNat 8 (v.toNat / 2)) (fun v => [(.c, bitAt 0 v)])
    (fun v s s2 t =>
      let a' := s.a ^^^ BitVec.ofNat 8 (v.toNat / 2)
      t = { s2 with a := a', p := t.p } ∧ flagsAre s.p t.p ((.c, bitAt 0 v) :: zn a')) ∧
  modifiesThen
    [⟨0x67, .zp, 5, false⟩, ⟨0x77, .zpx, 6, false⟩, ⟨0x6F, .abs, 6, false⟩, ⟨0x7F, .abx, 7, false⟩,
     ⟨0x7B, .aby, 7, false⟩, ⟨0x63, .izx, 8, false⟩, ⟨0x73, .izy, 8, false⟩]
    (fun v s => BitVec.ofNat 8 (v.toNat / 2 + 128 * (getFlag .c s.p).toNat)) (fun v => [(.c, bitAt 0 v)])
    (fun v s s2 t =>
      let m : Byte := BitVec.ofNat 8 (v.toNat / 2 + 128 * (getFlag .c s.p).toNat)
      let sum := s.a.toNat + m.toNat + v.toNat % 2
      let r := BitVec.ofNat 8 (sum % 256)
      t = { s2 with a := r, p := t.p } ∧
      flagsAre s.p t.p ((.c, decide (sum > 255)) :: (.v, (bitAt 7 s.a == bitAt 7 m) && (bitAt 7 r != bitAt 7 s.a)) :: zn r))

/-- The access faults (20_memory.md R47, R50, R52; 60_exceptions.md R261, R262), the ranges without overlap. -/
def Obligations.AccessFaults : Prop :=
  ∀ (pc0 a : Word) (v : Byte) (s : State),
    (0x4020 ≤ a.toNat → a.toNat < 0x8000 →
      busRead pc0 a s = .fault (.unmappedAccess pc0 a none s.regs) ∧ busWrite pc0 a v s = .fault (.unmappedAccess pc0 a (some v) s.regs)) ∧
    (0x8000 ≤ a.toNat → busWrite pc0 a v s = .fault (.romWrite pc0 a v s.regs)) ∧
    (0x2000 ≤ a.toNat → a.toNat < 0x4000 → a.toNat % 8 ∈ [0, 1, 3, 5, 6] → busRead pc0 a s = .fault (.writeOnlyRead pc0 a s.regs)) ∧
    (a.toNat = 0x4014 → busRead pc0 a s = .fault (.writeOnlyRead pc0 a s.regs)) ∧
    (0x2000 ≤ a.toNat → a.toNat < 0x4000 → a.toNat % 8 = 2 → busWrite pc0 a v s = .fault (.readOnlyWrite pc0 a v s.regs))

/-- RAM (20_memory.md R48). -/
def Obligations.RamAccess : Prop :=
  ∀ (pc0 a : Word) (v : Byte) (s : State), a.toNat < 0x2000 →
    busRead pc0 a s = .ok (ramByte s (a.toNat % 0x800)) s ∧
    ∃ t : State, busWrite pc0 a v s = .ok () t ∧ t = { s with ram := t.ram } ∧ ramIs s t [(a.toNat % 0x800, v)] ∧
      ∀ b : Word, b.toNat < 0x2000 →
        busRead pc0 b t = .ok (if b.toNat % 0x800 = a.toNat % 0x800 then v else ramByte s (b.toNat % 0x800)) t

/-- PRG ROM reads (20_memory.md R51). -/
def Obligations.PrgRead : Prop :=
  ∀ (pc0 a : Word) (s : State), 0x8000 ≤ a.toNat →
    (s.cart.banks = .one → busRead pc0 a s = .ok (Memory.read .prg s.cart.prg ((a.toNat - 0x8000) % 16384)) s) ∧
    (s.cart.banks = .two → busRead pc0 a s = .ok (Memory.read .prg s.cart.prg (a.toNat - 0x8000)) s) ∧
    (s.cart.banks = .one → a.toNat < 0xC000 → ∃ b, busRead pc0 a s = .ok b s ∧ busRead pc0 (a + 0x4000) s = .ok b s)

/-- Ports 0x2000 and 0x2001 (60_exceptions.md R250, R251). -/
def Obligations.ControlAndMaskWrites : Prop :=
  ∀ (pc0 a : Word) (v : Byte) (s : State), 0x2000 ≤ a.toNat → a.toNat < 0x4000 →
    (a.toNat % 8 = 0 → busWrite pc0 a v s = .ok () { s with ppu := { s.ppu with
      ctrl := v
      nmiPending :=
        if bitAt 7 s.ppu.ctrl = false ∧ bitAt 7 v = true ∧ bitAt 7 s.ppu.status = true then true else s.ppu.nmiPending } }) ∧
    (a.toNat % 8 = 1 → busWrite pc0 a v s = .ok () { s with ppu := { s.ppu with mask := v } })

/-- Port 0x2002 (60_exceptions.md R252). -/
def Obligations.StatusRead : Prop :=
  ∀ (pc0 a : Word) (s : State), 0x2000 ≤ a.toNat → a.toNat < 0x4000 → a.toNat % 8 = 2 →
    ∃ t : State, busRead pc0 a s = .ok s.ppu.status t ∧
      t = { s with ppu := { s.ppu with status := t.ppu.status, addrFirst := true, scrollFirst := true } } ∧
      (∀ k < 8, bitAt k t.ppu.status = if k = 7 then false else bitAt k s.ppu.status) ∧
      busRead pc0 a t = .ok t.ppu.status t

/-- Ports 0x2003 and 0x2004 (60_exceptions.md R253-R255). -/
def Obligations.OamPorts : Prop :=
  ∀ (pc0 a : Word) (v : Byte) (s : State), 0x2000 ≤ a.toNat → a.toNat < 0x4000 →
    (a.toNat % 8 = 3 → busWrite pc0 a v s = .ok () { s with ppu := { s.ppu with oamAddr := v } }) ∧
    (a.toNat % 8 = 4 → busRead pc0 a s = .ok (Memory.read .oam s.ppu.oam s.ppu.oamAddr.toNat) s ∧
      ∃ t : State, busWrite pc0 a v s = .ok () t ∧
        t = { s with ppu := { s.ppu with oam := t.ppu.oam, oamAddr := s.ppu.oamAddr + 1 } } ∧
        ∀ k, Memory.read .oam t.ppu.oam k = if k = s.ppu.oamAddr.toNat then v else Memory.read .oam s.ppu.oam k)

/-- Ports 0x2005 and 0x2006 (60_exceptions.md R256, R257). -/
def Obligations.TwoWriteLatches : Prop :=
  ∀ (pc0 a : Word) (v : Byte) (s : State), 0x2000 ≤ a.toNat → a.toNat < 0x4000 →
    (a.toNat % 8 = 5 → s.ppu.scrollFirst = true →
      busWrite pc0 a v s = .ok () { s with ppu := { s.ppu with scrollX := v, scrollFirst := false } }) ∧
    (a.toNat % 8 = 5 → s.ppu.scrollFirst = false →
      busWrite pc0 a v s = .ok () { s with ppu := { s.ppu with scrollY := v, scrollFirst := true } }) ∧
    (a.toNat % 8 = 6 → s.ppu.addrFirst = true →
      busWrite pc0 a v s = .ok () { s with ppu := { s.ppu with
        v := BitVec.ofNat 16 ((256 * v.toNat + s.ppu.v.toNat % 256) % 0x4000), addrFirst := false } }) ∧
    (a.toNat % 8 = 6 → s.ppu.addrFirst = false →
      busWrite pc0 a v s = .ok () { s with ppu := { s.ppu with
        v := BitVec.ofNat 16 ((s.ppu.v.toNat / 256 * 256 + v.toNat) % 0x4000), addrFirst := true } })

/-- Port 0x2007 over the VRAM space (60_exceptions.md R248, R249, R258-R260). For a VRAM address of 0x4000 or above, outside the 14-bit space
of R248 and in no state that meets `State.Inv`, that the formulas of these rules apply as written is the model's choice (log 16). -/
def Obligations.DataPort : Prop :=
  ∀ (pc0 a : Word) (v : Byte) (s : State), 0x2000 ≤ a.toNat → a.toNat < 0x4000 → a.toNat % 8 = 7 →
    let va := s.ppu.v.toNat
    let v' := BitVec.ofNat 16 ((va + (if bitAt 2 s.ppu.ctrl then 32 else 1)) % 0x4000)
    let r := (va - 0x2000) % 0x1000
    let nt := match s.cart.mirroring with
      | .vertical => r % 0x800
      | .horizontal => r / 0x400 / 2 * 0x400 + r % 0x400
    let pal := if va % 0x20 ∈ [0x10, 0x14, 0x18, 0x1C] then va % 0x20 - 0x10 else va % 0x20
    let byte :=
      if va < 0x2000 then Memory.read .chr s.cart.chr va
      else if va < 0x3F00 then Memory.read .vram s.ppu.vram nt
      else Memory.read .palette s.ppu.palette pal
    (¬ (s.params.readBuffered = true ∧ va < 0x3F00) →
      busRead pc0 a s = .ok byte { s with ppu := { s.ppu with v := v' } }) ∧
    (s.params.readBuffered = true → va < 0x3F00 →
      busRead pc0 a s = .ok s.ppu.readBuffer { s with ppu := { s.ppu with v := v', readBuffer := byte } }) ∧
    (va < 0x2000 → busWrite pc0 a v s = .fault (.chrWrite pc0 a v s.ppu.v s.regs)) ∧
    (0x2000 ≤ va → va < 0x3F00 → ∃ m : Memory,
      busWrite pc0 a v s = .ok () { s with ppu := { s.ppu with v := v', vram := m } } ∧
      ∀ k, Memory.read .vram m k = if k = nt then v else Memory.read .vram s.ppu.vram k) ∧
    (0x3F00 ≤ va → ∃ m : Memory,
      busWrite pc0 a v s = .ok () { s with ppu := { s.ppu with v := v', palette := m } } ∧
      ∀ k, Memory.read .palette m k = if k = pal then v else Memory.read .palette s.ppu.palette k)

/-- OAM-DMA (20_memory.md R54, R55). -/
def Obligations.OamDma : Prop :=
  ∀ (pc0 : Word) (v : Byte) (s : State),
    ((v.toNat < 0x20 ∨ 0x80 ≤ v.toNat) → ∃ t : State, busWrite pc0 0x4014 v s = .ok () t ∧
      t = { s with ppu := { s.ppu with oam := t.ppu.oam } } ∧
      ∀ i : Byte, ∃ b, busRead pc0 (mk16 v i) s = .ok b s ∧ Memory.read .oam t.ppu.oam (s.ppu.oamAddr + i).toNat = b) ∧
    (0x20 ≤ v.toNat → v.toNat < 0x40 → busWrite pc0 0x4014 v s = .fault (.writeOnlyRead pc0 (mk16 v 0) s.regs)) ∧
    (v.toNat = 0x40 → busWrite pc0 0x4014 v s = .fault (.writeOnlyRead pc0 0x4014 s.regs)) ∧
    (0x40 < v.toNat → v.toNat < 0x80 → busWrite pc0 0x4014 v s = .fault (.unmappedAccess pc0 (mk16 v 0) none s.regs))

/-- The I/O registers without a device (20_memory.md R50); the count of draws is the model's own field (log 7). -/
def Obligations.ApuRegisters : Prop :=
  ∀ (pc0 a : Word) (v : Byte) (s : State), 0x4000 ≤ a.toNat → a.toNat < 0x4020 → a.toNat ≠ 0x4014 → a.toNat ≠ 0x4016 →
    busWrite pc0 a v s = .ok () s ∧
    (a.toNat ≠ 0x4017 → busRead pc0 a s = .ok (Config.freeByte s.draws) { s with draws := s.draws + 1 })

/-- The joypads (60_exceptions.md R269, R270). -/
def Obligations.Joypads : Prop :=
  (∀ (pc0 : Word) (v : Byte) (s : State), busWrite pc0 0x4016 v s = .ok () { s with
      pad1 := { s.pad1 with strobe := bitAt 0 v, index := if bitAt 0 v then 0 else s.pad1.index }
      pad2 := { s.pad2 with strobe := bitAt 0 v, index := if bitAt 0 v then 0 else s.pad2.index } }) ∧
  ∀ (pc0 : Word) (s : State),
    (8 ≤ s.pad1.index → busRead pc0 0x4016 s = .ok 1 s) ∧
    (s.pad1.index < 8 → busRead pc0 0x4016 s = .ok (if bitAt s.pad1.index s.pad1.buttons then 1 else 0)
      { s with pad1 := { s.pad1 with index := if s.pad1.strobe then s.pad1.index else s.pad1.index + 1 } }) ∧
    (8 ≤ s.pad2.index → busRead pc0 0x4017 s = .ok 1 s) ∧
    (s.pad2.index < 8 → busRead pc0 0x4017 s = .ok (if bitAt s.pad2.index s.pad2.buttons then 1 else 0)
      { s with pad2 := { s.pad2 with index := if s.pad2.strobe then s.pad2.index else s.pad2.index + 1 } })

/-- The tick and the host frame (20_memory.md R56; 60_exceptions.md R275); the two new button bytes are free values, and the count of draws,
which grows by 2, is the model's own field and choice (log 7). -/
def Obligations.TickAndHostFrame : Prop :=
  ∀ (n : Nat) (s : State),
    (¬ (s.ppu.nmiPending = false ∧ (ppuAdvance (3 * n) s.ppu).nmiPending = true) →
      tick n s = { s with cycles := s.cycles + n, ppu := ppuAdvance (3 * n) s.ppu }) ∧
    (s.ppu.nmiPending = false → (ppuAdvance (3 * n) s.ppu).nmiPending = true →
      ∃ b1 b2 : Byte, tick n s = { s with
        cycles := s.cycles + n
        ppu := { ppuAdvance (3 * n) s.ppu with frame := renderFrame s.cart (ppuAdvance (3 * n) s.ppu) }
        pad1 := { s.pad1 with buttons := b1 }
        pad2 := { s.pad2 with buttons := b2 }
        draws := s.draws + 2 })

/-- The PPU advance (60_exceptions.md R240-R243). -/
def Obligations.PpuAdvance : Prop :=
  ∀ (n : Nat) (u : Ppu),
    (u.dot + n < 341 → ppuAdvance n u = { u with dot := u.dot + n }) ∧
    (341 ≤ u.dot + n →
      let d := (u.dot + n) % 341
      let hit : Bool := decide ((Memory.read .oam u.oam 0).toNat = u.scanline ∧ (Memory.read .oam u.oam 3).toNat ≤ d) &&
        (bitAt 3 u.mask && bitAt 4 u.mask)
      ∃ t : Ppu, ppuAdvance n u = t ∧
        t = { u with dot := d, scanline := t.scanline, status := t.status, nmiPending := t.nmiPending } ∧
        t.scanline = (if 262 ≤ u.scanline + 1 then 0 else u.scanline + 1) ∧
        (∀ k < 6, bitAt k t.status = bitAt k u.status) ∧
        bitAt 6 t.status = (if 262 ≤ u.scanline + 1 then false else bitAt 6 u.status || hit) ∧
        bitAt 7 t.status = (if 262 ≤ u.scanline + 1 then false else bitAt 7 u.status || decide (u.scanline + 1 = 241)) ∧
        t.nmiPending =
          (if 262 ≤ u.scanline + 1 then false else u.nmiPending || (decide (u.scanline + 1 = 241) && bitAt 7 u.ctrl)))

/-- The register frame over all instructions (10_state.md R21-R25, R41; 40_execute_and_addressing.md R104). -/
def Obligations.RegisterFrame : Prop :=
  ∀ (i : Instr) (d : Descriptor) (s t : State), descriptor i = some d → exec i s = .next t →
    (d.mnemonic ∉ [.adc, .sbc, .and, .ora, .eor, .lda, .pla, .txa, .tya, .lax, .slo, .rla, .sre, .rra, .isb] →
      ¬ (d.mnemonic ∈ [.asl, .lsr, .rol, .ror] ∧ d.mode = .acc) → t.a = s.a) ∧
    (d.mnemonic ∉ [.ldx, .tax, .tsx, .inx, .dex, .lax] → t.x = s.x) ∧
    (d.mnemonic ∉ [.ldy, .tay, .iny, .dey] → t.y = s.y) ∧
    (d.mnemonic ∉ [.txs, .pha, .php, .pla, .plp, .jsr, .rts, .brk, .rti] → t.sp = s.sp) ∧
    (d.mnemonic ∉ [.bcc, .bcs, .beq, .bmi, .bne, .bpl, .bvc, .bvs, .jmp, .jsr, .rts, .brk, .rti] →
      t.pc = s.pc + BitVec.ofNat 16 d.mode.length) ∧
    (d.mnemonic ≠ .brk → t.running = s.running)

/-- The flag frame over all instructions: the column "written by" of 10_state.md R26, the Z and N rows spelled out from the Flags entries. -/
def Obligations.FlagFrame : Prop :=
  ∀ (i : Instr) (d : Descriptor) (s t : State), descriptor i = some d → exec i s = .next t →
    (d.mnemonic ∉ [.adc, .sbc, .cmp, .cpx, .cpy, .asl, .lsr, .rol, .ror, .clc, .sec, .plp, .rti, .dcp, .isb, .slo, .rla, .sre, .rra] →
      getFlag .c t.p = getFlag .c s.p) ∧
    (d.mnemonic ∈ [.bcc, .bcs, .beq, .bmi, .bne, .bpl, .bvc, .bvs, .jmp, .jsr, .rts, .brk, .sta, .stx, .sty, .sax, .txs, .pha, .php,
        .clc, .sec, .cli, .sei, .cld, .sed, .clv, .nop] →
      getFlag .z t.p = getFlag .z s.p ∧ getFlag .n t.p = getFlag .n s.p) ∧
    (d.mnemonic ∉ [.sei, .cli, .brk, .plp, .rti] → getFlag .i t.p = getFlag .i s.p) ∧
    (d.mnemonic ∉ [.sed, .cld, .plp, .rti] → getFlag .d t.p = getFlag .d s.p) ∧
    (d.mnemonic ∉ [.adc, .sbc, .bit, .clv, .plp, .rti, .isb, .rra] → getFlag .v t.p = getFlag .v s.p) ∧
    getFlag .b1 t.p = getFlag .b1 s.p ∧ getFlag .b2 t.p = getFlag .b2 s.p

/-- The memory frame over all instructions: `ramStores` computes the stored cells with the model's own `ea` and stack index at `s`
(40_execute_and_addressing.md R120, R125). -/
def Obligations.MemoryFrame : Prop :=
  ∀ (i : Instr) (d : Descriptor) (s t : State), descriptor i = some d → exec i s = .next t →
    (∀ k : Nat, k ∉ ramStores d s → ramByte t k = ramByte s k) ∧
    ∀ a : Word, isPlain a = true → (a.toNat < 0x2000 → ramIndex a ∉ ramStores d s) → plainByte t a = plainByte s a

/-- The frame of everything else: cartridge, parameters, run record, devices (20_memory.md R52, R56, R57, R61). -/
def Obligations.DeviceFrame : Prop :=
  ∀ (i : Instr) (d : Descriptor) (s t : State), descriptor i = some d → exec i s = .next t →
    t.cart = s.cart ∧ t.params = s.params ∧ t.fault = s.fault ∧ t.stopRequest = s.stopRequest ∧
    ((∀ a ∈ busAddresses d s, isPlain a = true) → ∃ n : Nat, t.cycles = s.cycles + n ∧
      t.ppu = (tick n s).ppu ∧ t.pad1 = (tick n s).pad1 ∧ t.pad2 = (tick n s).pad2 ∧ t.draws = (tick n s).draws)

/-- The calling convention and the trap frame (42_control_flow.md R164; 43_load_store_stack_flags.md R185, example). -/
def Obligations.StackRoundTrips : Prop :=
  ∀ (s t u : State), u.sp = t.sp → (∀ k, ramByte u k = ramByte t k) →
    (∀ addr, exec (.jsr addr) s = .next t → ∃ w, exec .rts u = .next w ∧ w.pc = s.pc + 3 ∧ w.sp = s.sp) ∧
    (exec .brk s = .next t → ∃ w, exec .rti u = .next w ∧ w.pc = s.pc + 2 ∧ w.sp = s.sp ∧
      ∀ f, f ≠ .b1 → f ≠ .b2 → getFlag f w.p = getFlag f s.p) ∧
    (exec .pha s = .next t → ∃ w, exec .pla u = .next w ∧ w.a = s.a ∧ w.sp = s.sp) ∧
    (exec .php s = .next t → ∃ w, exec .plp u = .next w ∧ w.sp = s.sp ∧
      ∀ f, f ≠ .b1 → f ≠ .b2 → getFlag f w.p = getFlag f s.p)

/-- Reset (10_state.md R42, R43; 70_reset_and_hazards.md R291, R292). That the memories hold nothing written is the model's form (log 6). -/
def Obligations.ResetValues : Prop :=
  (∀ (params : Params) (c : Cartridge) (startPc : Option Word),
    let s := State.powerOn params startPc c
    s.a = 0 ∧ s.x = 0 ∧ s.y = 0 ∧ s.sp = 0xFD ∧ s.p = 0x24 ∧
    (getFlag .c s.p = false ∧ getFlag .z s.p = false ∧ getFlag .i s.p = true ∧ getFlag .d s.p = false ∧
      getFlag .b1 s.p = false ∧ getFlag .b2 s.p = true ∧ getFlag .v s.p = false ∧ getFlag .n s.p = false) ∧
    s.running = true ∧ s.cycles = 0 ∧ s.fault = none ∧ s.cart = c ∧ s.params = params ∧
    s.ppu.ctrl = 0 ∧ s.ppu.mask = 0 ∧ s.ppu.status = 0 ∧ s.ppu.oamAddr = 0 ∧ s.ppu.v = 0 ∧ s.ppu.addrFirst = true ∧
    s.ppu.scrollX = 0 ∧ s.ppu.scrollY = 0 ∧ s.ppu.scrollFirst = true ∧ s.ppu.readBuffer = 0 ∧ s.ppu.scanline = 0 ∧
    s.ppu.dot = 0 ∧ s.ppu.nmiPending = false ∧
    s.pad1.buttons = 0 ∧ s.pad1.strobe = false ∧ s.pad1.index = 0 ∧
    s.pad2.buttons = 0 ∧ s.pad2.strobe = false ∧ s.pad2.index = 0 ∧
    (∀ w, startPc = some w → s.pc = w) ∧
    (startPc = none → s.pc = mk16 (prgByte c 0xFFFD) (prgByte c 0xFFFC))) ∧
  ∃ (params : Params) (c : Cartridge) (startPc : Option Word), State.reset = State.powerOn params startPc c

/-- The invariant holds at reset (10_state.md R32, R39, R40, R42, R43). -/
def Obligations.ResetInv : Prop :=
  State.Inv State.reset

/-- The invariant is kept by every step (10_state.md R32, R39, R40; 60_exceptions.md R240, R247, R257). -/
def Obligations.StepKeepsInv : Prop :=
  ∀ (s t : State), State.Inv s → step s = .next t → State.Inv t

/-- B1 and B2 are never changed after reset (10_state.md R32); ROM is read-only (20_memory.md R52). -/
def Obligations.BreakBitsNeverChange : Prop :=
  ∀ (s t : State), step s = .next t →
    getFlag .b1 t.p = getFlag .b1 s.p ∧ getFlag .b2 t.p = getFlag .b2 s.p ∧ t.cart = s.cart ∧ t.params = s.params

/-- Cartridge acceptance (20_memory.md R63, R64; 60_exceptions.md R216); the version field's other values are the model's reading (log 17). -/
def Obligations.CartridgeAcceptance : Prop :=
  ∀ image : List Byte,
    let b := fun k => image.getD k 0
    let start := if bitAt 2 (b 6) then 528 else 16
    let size := 16384 * (b 4).toNat
    ((∃ c, configure image = .ok c) ↔
      image.take 4 = [0x4E, 0x45, 0x53, 0x1A] ∧ (b 7).toNat / 16 = 0 ∧ (b 6).toNat / 16 = 0 ∧ (b 7).toNat / 4 % 4 ≠ 2 ∧
        ((b 4).toNat = 1 ∨ (b 4).toNat = 2) ∧ (b 5).toNat = 1 ∧ bitAt 3 (b 6) = false ∧ start + size + 8192 ≤ image.length) ∧
    ∀ c, configure image = .ok c →
      (c.mirroring = .vertical ↔ bitAt 0 (b 6) = true) ∧ prgSize c.banks = size ∧
      (∀ k < size, Memory.read .prg c.prg k = b (start + k)) ∧ ∀ k < 8192, Memory.read .chr c.chr k = b (start + size + k)
end

