-- ==== Sys2Proof/Laws/Flags.lean ====
section
/-! SUPPORT. The laws of the status byte: reading a field after setting one, and what each flag computation leaves. -/

namespace Sys2Proof.Machine

/-- A field read after a field was set. -/
theorem getFlag_setFlag (f g : Flag) (b : Bool) (p : Byte) : getFlag f (setFlag g b p) = if f = g then b else getFlag f p := by
  cases f <;> cases g <;> cases b <;> simp [getFlag, setFlag, bitAt, Flag.bit]

@[simp] theorem getFlag_setFlag_same (f : Flag) (b : Bool) (p : Byte) : getFlag f (setFlag f b p) = b := by
  simp [getFlag_setFlag]

@[simp] theorem getFlag_setFlag_ne {f g : Flag} (h : f ≠ g) (b : Bool) (p : Byte) : getFlag f (setFlag g b p) = getFlag f p := by
  simp [getFlag_setFlag, h]

/-- Two status bytes with the same fields are the same byte (10_state.md R27). -/
theorem status_ext {p q : Byte} (h : ∀ f, getFlag f p = getFlag f q) : p = q := by
  apply BitVec.eq_of_getLsbD_eq
  intro i hi
  have hc := h .c; have hz := h .z; have hii := h .i; have hd := h .d
  have h1 := h .b1; have h2 := h .b2; have hv := h .v; have hn := h .n
  simp only [getFlag, bitAt, Flag.bit] at hc hz hii hd h1 h2 hv hn
  match i, hi with
  | 0, _ => exact hc
  | 1, _ => exact hz
  | 2, _ => exact hii
  | 3, _ => exact hd
  | 4, _ => exact h1
  | 5, _ => exact h2
  | 6, _ => exact hv
  | 7, _ => exact hn

/-- The generic update writes Z and N and nothing else (R35). -/
theorem getFlag_updateZN (f : Flag) (r p : Byte) :
    getFlag f (updateZN r p) = if f = .n then bitAt 7 r else if f = .z then decide (r = 0) else getFlag f p := by
  simp only [updateZN, getFlag_setFlag, beq_eq_decide]

/-- Every field of P after an addition (41_alu.md R130). -/
theorem getFlag_addFlags (f : Flag) (a op : Byte) (c : Bool) (p : Byte) :
    getFlag f (addFlags a op c p) =
      if f = .n then bitAt 7 (addResult a op c) else if f = .z then decide (addResult a op c = 0)
      else if f = .v then addOverflow a op c else if f = .c then decide (addSum a op c > 255) else getFlag f p := by
  simp only [addFlags, getFlag_updateZN, getFlag_setFlag]

/-- Every field of P after a compare (R136). -/
theorem getFlag_compareFlags (f : Flag) (r op p : Byte) :
    getFlag f (compareFlags r op p) =
      if f = .n then bitAt 7 (BitVec.ofInt 8 (compareDiff r op)) else if f = .z then decide (compareDiff r op = 0)
      else if f = .c then decide (0 ≤ compareDiff r op) else getFlag f p := by
  simp only [compareFlags, getFlag_setFlag]

/-- Every field of P after BIT (R135). -/
theorem getFlag_bitTestFlags (f : Flag) (a op p : Byte) :
    getFlag f (bitTestFlags a op p) =
      if f = .v then bitAt 6 op else if f = .n then bitAt 7 op else if f = .z then decide (a &&& op = 0) else getFlag f p := by
  simp only [bitTestFlags, getFlag_setFlag, beq_eq_decide]

/-- Every field of P after a shift or rotate (R145-R148). -/
theorem getFlag_shiftFlags (f : Flag) (carry : Bool) (r p : Byte) :
    getFlag f (shiftFlags carry r p) =
      if f = .n then bitAt 7 r else if f = .z then decide (r = 0) else if f = .c then carry else getFlag f p := by
  simp only [shiftFlags, getFlag_updateZN, getFlag_setFlag]

/-- Every field of P after PLP or RTI: bits 4 and 5 are the old ones (43 R185, 42 R163). -/
theorem getFlag_mergeStatus (f : Flag) (new old : Byte) :
    getFlag f (mergeStatus new old) = if f = .b1 ∨ f = .b2 then getFlag f old else getFlag f new := by
  cases f <;> simp [getFlag, mergeStatus, bitAt, Flag.bit]

/-- Bits 4 and 5 as a byte are the two break fields. -/
theorem breakBits_eq {p q : Byte} : p &&& 0x30 = q &&& 0x30 ↔ getFlag .b1 p = getFlag .b1 q ∧ getFlag .b2 p = getFlag .b2 q := by
  constructor
  · intro h
    have h4 := congrArg (fun v => v.getLsbD 4) h
    have h5 := congrArg (fun v => v.getLsbD 5) h
    simpa [getFlag, bitAt, Flag.bit] using And.intro h4 h5
  · rintro ⟨h4, h5⟩
    simp only [getFlag, bitAt, Flag.bit] at h4 h5
    apply BitVec.eq_of_getLsbD_eq
    intro i hi
    match i, hi with
    | 4, _ => simpa using h4
    | 5, _ => simpa using h5
    | 0, _ | 1, _ | 2, _ | 3, _ | 6, _ | 7, _ => simp

end Sys2Proof.Machine
end

