-- ==== Sys2Proof/Laws/Mem.lean ====
section
/-! SUPPORT. The laws of memory: a read after a write, and the canonical form, which every write keeps. -/

namespace Sys2Proof.Machine

section
variable {β : Type}

@[simp] theorem cellsGet_cellsPut_same (a : Nat) (v : β) (m : List (Nat × β)) : cellsGet a (cellsPut a v m) = some v := by
  induction m with
  | nil => simp [cellsPut, cellsGet]
  | cons c t ih =>
    obtain ⟨k, w⟩ := c
    simp only [cellsPut]
    split
    · simp [cellsGet]
    · split
      · simp [cellsGet]
      · have hk : k ≠ a := by omega
        simp [cellsGet, hk, ih]

theorem cellsGet_cellsPut_ne {a b : Nat} (h : a ≠ b) (v : β) (m : List (Nat × β)) : cellsGet b (cellsPut a v m) = cellsGet b m := by
  induction m with
  | nil => simp [cellsPut, cellsGet, h]
  | cons c t ih =>
    obtain ⟨k, w⟩ := c
    simp only [cellsPut]
    split
    · simp [cellsGet, h]
    · split
      · next hk => subst hk; simp [cellsGet, h]
      · simp [cellsGet, ih]

theorem cellsWf_weaken {lo lo' size : Nat} (h : lo' ≤ lo) {m : List (Nat × β)} (w : cellsWf lo size m = true) :
    cellsWf lo' size m = true := by
  cases m with
  | nil => rfl
  | cons c t =>
    simp only [cellsWf, Bool.and_eq_true, decide_eq_true_eq] at w ⊢
    exact ⟨⟨by omega, w.1.2⟩, w.2⟩

theorem cellsWf_cellsPut {lo size a : Nat} (v : β) {m : List (Nat × β)} (w : cellsWf lo size m = true) (hl : lo ≤ a) (hs : a < size) :
    cellsWf lo size (cellsPut a v m) = true := by
  induction m generalizing lo with
  | nil => simp [cellsPut, cellsWf, hl, hs]
  | cons c t ih =>
    obtain ⟨k, x⟩ := c
    simp only [cellsWf, Bool.and_eq_true, decide_eq_true_eq] at w
    simp only [cellsPut]
    split
    · simp only [cellsWf, Bool.and_eq_true, decide_eq_true_eq]
      exact ⟨⟨hl, hs⟩, ⟨by omega, w.1.2⟩, w.2⟩
    · split
      · next hk => subst hk; simp only [cellsWf, Bool.and_eq_true, decide_eq_true_eq]; exact ⟨⟨hl, hs⟩, w.2⟩
      · simp only [cellsWf, Bool.and_eq_true, decide_eq_true_eq]
        exact ⟨w.1, ih w.2 (by omega)⟩

/-- A list built by listing every index of an interval in order is in canonical form. -/
theorem cellsWf_map_range' (f : Nat → β) (lo n size : Nat) (h : lo + n ≤ size) :
    cellsWf lo size ((List.range' lo n).map fun i => (i, f i)) = true := by
  induction n generalizing lo with
  | zero => rfl
  | succ n ih =>
    simp only [List.range'_succ, List.map_cons, cellsWf, Bool.and_eq_true, decide_eq_true_eq]
    exact ⟨⟨Nat.le_refl _, by omega⟩, ih (lo + 1) (by omega)⟩

/-- A list that gives every index below `n` its value, in order, is in canonical form. -/
theorem cellsWf_range (f : Nat → β) (n : Nat) : cellsWf 0 n ((List.range n).map fun i => (i, f i)) = true := by
  rw [List.range_eq_range']
  exact cellsWf_map_range' f 0 n n (by omega)

end

@[simp] theorem Memory.read_write_same (st : Storage) (i : Nat) (v : Byte) (m : Memory) :
    Memory.read st (Memory.write i v m) i = v := by
  simp [Memory.read, Memory.write]

theorem Memory.read_write_ne (st : Storage) {i j : Nat} (h : i ≠ j) (v : Byte) (m : Memory) :
    Memory.read st (Memory.write i v m) j = Memory.read st m j := by
  simp [Memory.read, Memory.write, cellsGet_cellsPut_ne h]

theorem Memory.wf_write {st : Storage} {i : Nat} (v : Byte) {m : Memory} (w : Memory.wf st m = true) (h : i < st.size) :
    Memory.wf st (Memory.write i v m) = true := cellsWf_cellsPut v w (Nat.zero_le _) h

@[simp] theorem Memory.wf_nil (st : Storage) : Memory.wf st [] = true := rfl

end Sys2Proof.Machine
end

