-- ==== Sys2Proof/Laws/State.lean ====
section
/-! SUPPORT. One lemma per field per register update (Machine/Ops.lean): what the update leaves, true by unfolding. -/

namespace Sys2Proof.Machine

section
variable (v : Byte) (s : State)
@[simp] theorem State.setA_a : (s.setA v).a = v := rfl
@[simp] theorem State.setA_x : (s.setA v).x = s.x := rfl
@[simp] theorem State.setA_y : (s.setA v).y = s.y := rfl
@[simp] theorem State.setA_sp : (s.setA v).sp = s.sp := rfl
@[simp] theorem State.setA_p : (s.setA v).p = s.p := rfl
@[simp] theorem State.setA_pc : (s.setA v).pc = s.pc := rfl
@[simp] theorem State.setA_running : (s.setA v).running = s.running := rfl
@[simp] theorem State.setA_cycles : (s.setA v).cycles = s.cycles := rfl
@[simp] theorem State.setA_fault : (s.setA v).fault = s.fault := rfl
@[simp] theorem State.setA_ram : (s.setA v).ram = s.ram := rfl
@[simp] theorem State.setA_cart : (s.setA v).cart = s.cart := rfl
@[simp] theorem State.setA_params : (s.setA v).params = s.params := rfl
@[simp] theorem State.setA_ppu : (s.setA v).ppu = s.ppu := rfl
@[simp] theorem State.setA_pad1 : (s.setA v).pad1 = s.pad1 := rfl
@[simp] theorem State.setA_pad2 : (s.setA v).pad2 = s.pad2 := rfl
@[simp] theorem State.setA_stopRequest : (s.setA v).stopRequest = s.stopRequest := rfl
@[simp] theorem State.setA_draws : (s.setA v).draws = s.draws := rfl
end

section
variable (v : Byte) (s : State)
@[simp] theorem State.setX_a : (s.setX v).a = s.a := rfl
@[simp] theorem State.setX_x : (s.setX v).x = v := rfl
@[simp] theorem State.setX_y : (s.setX v).y = s.y := rfl
@[simp] theorem State.setX_sp : (s.setX v).sp = s.sp := rfl
@[simp] theorem State.setX_p : (s.setX v).p = s.p := rfl
@[simp] theorem State.setX_pc : (s.setX v).pc = s.pc := rfl
@[simp] theorem State.setX_running : (s.setX v).running = s.running := rfl
@[simp] theorem State.setX_cycles : (s.setX v).cycles = s.cycles := rfl
@[simp] theorem State.setX_fault : (s.setX v).fault = s.fault := rfl
@[simp] theorem State.setX_ram : (s.setX v).ram = s.ram := rfl
@[simp] theorem State.setX_cart : (s.setX v).cart = s.cart := rfl
@[simp] theorem State.setX_params : (s.setX v).params = s.params := rfl
@[simp] theorem State.setX_ppu : (s.setX v).ppu = s.ppu := rfl
@[simp] theorem State.setX_pad1 : (s.setX v).pad1 = s.pad1 := rfl
@[simp] theorem State.setX_pad2 : (s.setX v).pad2 = s.pad2 := rfl
@[simp] theorem State.setX_stopRequest : (s.setX v).stopRequest = s.stopRequest := rfl
@[simp] theorem State.setX_draws : (s.setX v).draws = s.draws := rfl
end

section
variable (v : Byte) (s : State)
@[simp] theorem State.setY_a : (s.setY v).a = s.a := rfl
@[simp] theorem State.setY_x : (s.setY v).x = s.x := rfl
@[simp] theorem State.setY_y : (s.setY v).y = v := rfl
@[simp] theorem State.setY_sp : (s.setY v).sp = s.sp := rfl
@[simp] theorem State.setY_p : (s.setY v).p = s.p := rfl
@[simp] theorem State.setY_pc : (s.setY v).pc = s.pc := rfl
@[simp] theorem State.setY_running : (s.setY v).running = s.running := rfl
@[simp] theorem State.setY_cycles : (s.setY v).cycles = s.cycles := rfl
@[simp] theorem State.setY_fault : (s.setY v).fault = s.fault := rfl
@[simp] theorem State.setY_ram : (s.setY v).ram = s.ram := rfl
@[simp] theorem State.setY_cart : (s.setY v).cart = s.cart := rfl
@[simp] theorem State.setY_params : (s.setY v).params = s.params := rfl
@[simp] theorem State.setY_ppu : (s.setY v).ppu = s.ppu := rfl
@[simp] theorem State.setY_pad1 : (s.setY v).pad1 = s.pad1 := rfl
@[simp] theorem State.setY_pad2 : (s.setY v).pad2 = s.pad2 := rfl
@[simp] theorem State.setY_stopRequest : (s.setY v).stopRequest = s.stopRequest := rfl
@[simp] theorem State.setY_draws : (s.setY v).draws = s.draws := rfl
end

section
variable (v : Byte) (s : State)
@[simp] theorem State.setSp_a : (s.setSp v).a = s.a := rfl
@[simp] theorem State.setSp_x : (s.setSp v).x = s.x := rfl
@[simp] theorem State.setSp_y : (s.setSp v).y = s.y := rfl
@[simp] theorem State.setSp_sp : (s.setSp v).sp = v := rfl
@[simp] theorem State.setSp_p : (s.setSp v).p = s.p := rfl
@[simp] theorem State.setSp_pc : (s.setSp v).pc = s.pc := rfl
@[simp] theorem State.setSp_running : (s.setSp v).running = s.running := rfl
@[simp] theorem State.setSp_cycles : (s.setSp v).cycles = s.cycles := rfl
@[simp] theorem State.setSp_fault : (s.setSp v).fault = s.fault := rfl
@[simp] theorem State.setSp_ram : (s.setSp v).ram = s.ram := rfl
@[simp] theorem State.setSp_cart : (s.setSp v).cart = s.cart := rfl
@[simp] theorem State.setSp_params : (s.setSp v).params = s.params := rfl
@[simp] theorem State.setSp_ppu : (s.setSp v).ppu = s.ppu := rfl
@[simp] theorem State.setSp_pad1 : (s.setSp v).pad1 = s.pad1 := rfl
@[simp] theorem State.setSp_pad2 : (s.setSp v).pad2 = s.pad2 := rfl
@[simp] theorem State.setSp_stopRequest : (s.setSp v).stopRequest = s.stopRequest := rfl
@[simp] theorem State.setSp_draws : (s.setSp v).draws = s.draws := rfl
end

section
variable (v : Byte) (s : State)
@[simp] theorem State.setP_a : (s.setP v).a = s.a := rfl
@[simp] theorem State.setP_x : (s.setP v).x = s.x := rfl
@[simp] theorem State.setP_y : (s.setP v).y = s.y := rfl
@[simp] theorem State.setP_sp : (s.setP v).sp = s.sp := rfl
@[simp] theorem State.setP_p : (s.setP v).p = v := rfl
@[simp] theorem State.setP_pc : (s.setP v).pc = s.pc := rfl
@[simp] theorem State.setP_running : (s.setP v).running = s.running := rfl
@[simp] theorem State.setP_cycles : (s.setP v).cycles = s.cycles := rfl
@[simp] theorem State.setP_fault : (s.setP v).fault = s.fault := rfl
@[simp] theorem State.setP_ram : (s.setP v).ram = s.ram := rfl
@[simp] theorem State.setP_cart : (s.setP v).cart = s.cart := rfl
@[simp] theorem State.setP_params : (s.setP v).params = s.params := rfl
@[simp] theorem State.setP_ppu : (s.setP v).ppu = s.ppu := rfl
@[simp] theorem State.setP_pad1 : (s.setP v).pad1 = s.pad1 := rfl
@[simp] theorem State.setP_pad2 : (s.setP v).pad2 = s.pad2 := rfl
@[simp] theorem State.setP_stopRequest : (s.setP v).stopRequest = s.stopRequest := rfl
@[simp] theorem State.setP_draws : (s.setP v).draws = s.draws := rfl
end

section
variable (v : Word) (s : State)
@[simp] theorem State.setPc_a : (s.setPc v).a = s.a := rfl
@[simp] theorem State.setPc_x : (s.setPc v).x = s.x := rfl
@[simp] theorem State.setPc_y : (s.setPc v).y = s.y := rfl
@[simp] theorem State.setPc_sp : (s.setPc v).sp = s.sp := rfl
@[simp] theorem State.setPc_p : (s.setPc v).p = s.p := rfl
@[simp] theorem State.setPc_pc : (s.setPc v).pc = v := rfl
@[simp] theorem State.setPc_running : (s.setPc v).running = s.running := rfl
@[simp] theorem State.setPc_cycles : (s.setPc v).cycles = s.cycles := rfl
@[simp] theorem State.setPc_fault : (s.setPc v).fault = s.fault := rfl
@[simp] theorem State.setPc_ram : (s.setPc v).ram = s.ram := rfl
@[simp] theorem State.setPc_cart : (s.setPc v).cart = s.cart := rfl
@[simp] theorem State.setPc_params : (s.setPc v).params = s.params := rfl
@[simp] theorem State.setPc_ppu : (s.setPc v).ppu = s.ppu := rfl
@[simp] theorem State.setPc_pad1 : (s.setPc v).pad1 = s.pad1 := rfl
@[simp] theorem State.setPc_pad2 : (s.setPc v).pad2 = s.pad2 := rfl
@[simp] theorem State.setPc_stopRequest : (s.setPc v).stopRequest = s.stopRequest := rfl
@[simp] theorem State.setPc_draws : (s.setPc v).draws = s.draws := rfl
end

section
variable (v : Bool) (s : State)
@[simp] theorem State.setRunning_a : (s.setRunning v).a = s.a := rfl
@[simp] theorem State.setRunning_x : (s.setRunning v).x = s.x := rfl
@[simp] theorem State.setRunning_y : (s.setRunning v).y = s.y := rfl
@[simp] theorem State.setRunning_sp : (s.setRunning v).sp = s.sp := rfl
@[simp] theorem State.setRunning_p : (s.setRunning v).p = s.p := rfl
@[simp] theorem State.setRunning_pc : (s.setRunning v).pc = s.pc := rfl
@[simp] theorem State.setRunning_running : (s.setRunning v).running = v := rfl
@[simp] theorem State.setRunning_cycles : (s.setRunning v).cycles = s.cycles := rfl
@[simp] theorem State.setRunning_fault : (s.setRunning v).fault = s.fault := rfl
@[simp] theorem State.setRunning_ram : (s.setRunning v).ram = s.ram := rfl
@[simp] theorem State.setRunning_cart : (s.setRunning v).cart = s.cart := rfl
@[simp] theorem State.setRunning_params : (s.setRunning v).params = s.params := rfl
@[simp] theorem State.setRunning_ppu : (s.setRunning v).ppu = s.ppu := rfl
@[simp] theorem State.setRunning_pad1 : (s.setRunning v).pad1 = s.pad1 := rfl
@[simp] theorem State.setRunning_pad2 : (s.setRunning v).pad2 = s.pad2 := rfl
@[simp] theorem State.setRunning_stopRequest : (s.setRunning v).stopRequest = s.stopRequest := rfl
@[simp] theorem State.setRunning_draws : (s.setRunning v).draws = s.draws := rfl
end

section
variable (v : Nat) (s : State)
@[simp] theorem State.setCycles_a : (s.setCycles v).a = s.a := rfl
@[simp] theorem State.setCycles_x : (s.setCycles v).x = s.x := rfl
@[simp] theorem State.setCycles_y : (s.setCycles v).y = s.y := rfl
@[simp] theorem State.setCycles_sp : (s.setCycles v).sp = s.sp := rfl
@[simp] theorem State.setCycles_p : (s.setCycles v).p = s.p := rfl
@[simp] theorem State.setCycles_pc : (s.setCycles v).pc = s.pc := rfl
@[simp] theorem State.setCycles_running : (s.setCycles v).running = s.running := rfl
@[simp] theorem State.setCycles_cycles : (s.setCycles v).cycles = v := rfl
@[simp] theorem State.setCycles_fault : (s.setCycles v).fault = s.fault := rfl
@[simp] theorem State.setCycles_ram : (s.setCycles v).ram = s.ram := rfl
@[simp] theorem State.setCycles_cart : (s.setCycles v).cart = s.cart := rfl
@[simp] theorem State.setCycles_params : (s.setCycles v).params = s.params := rfl
@[simp] theorem State.setCycles_ppu : (s.setCycles v).ppu = s.ppu := rfl
@[simp] theorem State.setCycles_pad1 : (s.setCycles v).pad1 = s.pad1 := rfl
@[simp] theorem State.setCycles_pad2 : (s.setCycles v).pad2 = s.pad2 := rfl
@[simp] theorem State.setCycles_stopRequest : (s.setCycles v).stopRequest = s.stopRequest := rfl
@[simp] theorem State.setCycles_draws : (s.setCycles v).draws = s.draws := rfl
end

section
variable (v : Memory) (s : State)
@[simp] theorem State.setRam_a : (s.setRam v).a = s.a := rfl
@[simp] theorem State.setRam_x : (s.setRam v).x = s.x := rfl
@[simp] theorem State.setRam_y : (s.setRam v).y = s.y := rfl
@[simp] theorem State.setRam_sp : (s.setRam v).sp = s.sp := rfl
@[simp] theorem State.setRam_p : (s.setRam v).p = s.p := rfl
@[simp] theorem State.setRam_pc : (s.setRam v).pc = s.pc := rfl
@[simp] theorem State.setRam_running : (s.setRam v).running = s.running := rfl
@[simp] theorem State.setRam_cycles : (s.setRam v).cycles = s.cycles := rfl
@[simp] theorem State.setRam_fault : (s.setRam v).fault = s.fault := rfl
@[simp] theorem State.setRam_ram : (s.setRam v).ram = v := rfl
@[simp] theorem State.setRam_cart : (s.setRam v).cart = s.cart := rfl
@[simp] theorem State.setRam_params : (s.setRam v).params = s.params := rfl
@[simp] theorem State.setRam_ppu : (s.setRam v).ppu = s.ppu := rfl
@[simp] theorem State.setRam_pad1 : (s.setRam v).pad1 = s.pad1 := rfl
@[simp] theorem State.setRam_pad2 : (s.setRam v).pad2 = s.pad2 := rfl
@[simp] theorem State.setRam_stopRequest : (s.setRam v).stopRequest = s.stopRequest := rfl
@[simp] theorem State.setRam_draws : (s.setRam v).draws = s.draws := rfl
end

section
variable (v : Ppu) (s : State)
@[simp] theorem State.setPpu_a : (s.setPpu v).a = s.a := rfl
@[simp] theorem State.setPpu_x : (s.setPpu v).x = s.x := rfl
@[simp] theorem State.setPpu_y : (s.setPpu v).y = s.y := rfl
@[simp] theorem State.setPpu_sp : (s.setPpu v).sp = s.sp := rfl
@[simp] theorem State.setPpu_p : (s.setPpu v).p = s.p := rfl
@[simp] theorem State.setPpu_pc : (s.setPpu v).pc = s.pc := rfl
@[simp] theorem State.setPpu_running : (s.setPpu v).running = s.running := rfl
@[simp] theorem State.setPpu_cycles : (s.setPpu v).cycles = s.cycles := rfl
@[simp] theorem State.setPpu_fault : (s.setPpu v).fault = s.fault := rfl
@[simp] theorem State.setPpu_ram : (s.setPpu v).ram = s.ram := rfl
@[simp] theorem State.setPpu_cart : (s.setPpu v).cart = s.cart := rfl
@[simp] theorem State.setPpu_params : (s.setPpu v).params = s.params := rfl
@[simp] theorem State.setPpu_ppu : (s.setPpu v).ppu = v := rfl
@[simp] theorem State.setPpu_pad1 : (s.setPpu v).pad1 = s.pad1 := rfl
@[simp] theorem State.setPpu_pad2 : (s.setPpu v).pad2 = s.pad2 := rfl
@[simp] theorem State.setPpu_stopRequest : (s.setPpu v).stopRequest = s.stopRequest := rfl
@[simp] theorem State.setPpu_draws : (s.setPpu v).draws = s.draws := rfl
end

section
variable (v : Pad) (s : State)
@[simp] theorem State.setPad1_a : (s.setPad1 v).a = s.a := rfl
@[simp] theorem State.setPad1_x : (s.setPad1 v).x = s.x := rfl
@[simp] theorem State.setPad1_y : (s.setPad1 v).y = s.y := rfl
@[simp] theorem State.setPad1_sp : (s.setPad1 v).sp = s.sp := rfl
@[simp] theorem State.setPad1_p : (s.setPad1 v).p = s.p := rfl
@[simp] theorem State.setPad1_pc : (s.setPad1 v).pc = s.pc := rfl
@[simp] theorem State.setPad1_running : (s.setPad1 v).running = s.running := rfl
@[simp] theorem State.setPad1_cycles : (s.setPad1 v).cycles = s.cycles := rfl
@[simp] theorem State.setPad1_fault : (s.setPad1 v).fault = s.fault := rfl
@[simp] theorem State.setPad1_ram : (s.setPad1 v).ram = s.ram := rfl
@[simp] theorem State.setPad1_cart : (s.setPad1 v).cart = s.cart := rfl
@[simp] theorem State.setPad1_params : (s.setPad1 v).params = s.params := rfl
@[simp] theorem State.setPad1_ppu : (s.setPad1 v).ppu = s.ppu := rfl
@[simp] theorem State.setPad1_pad1 : (s.setPad1 v).pad1 = v := rfl
@[simp] theorem State.setPad1_pad2 : (s.setPad1 v).pad2 = s.pad2 := rfl
@[simp] theorem State.setPad1_stopRequest : (s.setPad1 v).stopRequest = s.stopRequest := rfl
@[simp] theorem State.setPad1_draws : (s.setPad1 v).draws = s.draws := rfl
end

section
variable (v : Pad) (s : State)
@[simp] theorem State.setPad2_a : (s.setPad2 v).a = s.a := rfl
@[simp] theorem State.setPad2_x : (s.setPad2 v).x = s.x := rfl
@[simp] theorem State.setPad2_y : (s.setPad2 v).y = s.y := rfl
@[simp] theorem State.setPad2_sp : (s.setPad2 v).sp = s.sp := rfl
@[simp] theorem State.setPad2_p : (s.setPad2 v).p = s.p := rfl
@[simp] theorem State.setPad2_pc : (s.setPad2 v).pc = s.pc := rfl
@[simp] theorem State.setPad2_running : (s.setPad2 v).running = s.running := rfl
@[simp] theorem State.setPad2_cycles : (s.setPad2 v).cycles = s.cycles := rfl
@[simp] theorem State.setPad2_fault : (s.setPad2 v).fault = s.fault := rfl
@[simp] theorem State.setPad2_ram : (s.setPad2 v).ram = s.ram := rfl
@[simp] theorem State.setPad2_cart : (s.setPad2 v).cart = s.cart := rfl
@[simp] theorem State.setPad2_params : (s.setPad2 v).params = s.params := rfl
@[simp] theorem State.setPad2_ppu : (s.setPad2 v).ppu = s.ppu := rfl
@[simp] theorem State.setPad2_pad1 : (s.setPad2 v).pad1 = s.pad1 := rfl
@[simp] theorem State.setPad2_pad2 : (s.setPad2 v).pad2 = v := rfl
@[simp] theorem State.setPad2_stopRequest : (s.setPad2 v).stopRequest = s.stopRequest := rfl
@[simp] theorem State.setPad2_draws : (s.setPad2 v).draws = s.draws := rfl
end

section
variable (v : Nat) (s : State)
@[simp] theorem State.setDraws_a : (s.setDraws v).a = s.a := rfl
@[simp] theorem State.setDraws_x : (s.setDraws v).x = s.x := rfl
@[simp] theorem State.setDraws_y : (s.setDraws v).y = s.y := rfl
@[simp] theorem State.setDraws_sp : (s.setDraws v).sp = s.sp := rfl
@[simp] theorem State.setDraws_p : (s.setDraws v).p = s.p := rfl
@[simp] theorem State.setDraws_pc : (s.setDraws v).pc = s.pc := rfl
@[simp] theorem State.setDraws_running : (s.setDraws v).running = s.running := rfl
@[simp] theorem State.setDraws_cycles : (s.setDraws v).cycles = s.cycles := rfl
@[simp] theorem State.setDraws_fault : (s.setDraws v).fault = s.fault := rfl
@[simp] theorem State.setDraws_ram : (s.setDraws v).ram = s.ram := rfl
@[simp] theorem State.setDraws_cart : (s.setDraws v).cart = s.cart := rfl
@[simp] theorem State.setDraws_params : (s.setDraws v).params = s.params := rfl
@[simp] theorem State.setDraws_ppu : (s.setDraws v).ppu = s.ppu := rfl
@[simp] theorem State.setDraws_pad1 : (s.setDraws v).pad1 = s.pad1 := rfl
@[simp] theorem State.setDraws_pad2 : (s.setDraws v).pad2 = s.pad2 := rfl
@[simp] theorem State.setDraws_stopRequest : (s.setDraws v).stopRequest = s.stopRequest := rfl
@[simp] theorem State.setDraws_draws : (s.setDraws v).draws = v := rfl
end

section
variable (n : Nat) (s : State)
@[simp] theorem State.atNext_a : (s.atNext n).a = s.a := rfl
@[simp] theorem State.atNext_x : (s.atNext n).x = s.x := rfl
@[simp] theorem State.atNext_y : (s.atNext n).y = s.y := rfl
@[simp] theorem State.atNext_sp : (s.atNext n).sp = s.sp := rfl
@[simp] theorem State.atNext_p : (s.atNext n).p = s.p := rfl
@[simp] theorem State.atNext_pc : (s.atNext n).pc = s.pc + BitVec.ofNat 16 n := rfl
@[simp] theorem State.atNext_running : (s.atNext n).running = s.running := rfl
@[simp] theorem State.atNext_cycles : (s.atNext n).cycles = s.cycles := rfl
@[simp] theorem State.atNext_fault : (s.atNext n).fault = s.fault := rfl
@[simp] theorem State.atNext_ram : (s.atNext n).ram = s.ram := rfl
@[simp] theorem State.atNext_cart : (s.atNext n).cart = s.cart := rfl
@[simp] theorem State.atNext_params : (s.atNext n).params = s.params := rfl
@[simp] theorem State.atNext_ppu : (s.atNext n).ppu = s.ppu := rfl
@[simp] theorem State.atNext_pad1 : (s.atNext n).pad1 = s.pad1 := rfl
@[simp] theorem State.atNext_pad2 : (s.atNext n).pad2 = s.pad2 := rfl
@[simp] theorem State.atNext_stopRequest : (s.atNext n).stopRequest = s.stopRequest := rfl
@[simp] theorem State.atNext_draws : (s.atNext n).draws = s.draws := rfl
end

section
variable (i : Nat) (v : Byte) (s : State)
@[simp] theorem ramStore_a : (ramStore i v s).a = s.a := rfl
@[simp] theorem ramStore_x : (ramStore i v s).x = s.x := rfl
@[simp] theorem ramStore_y : (ramStore i v s).y = s.y := rfl
@[simp] theorem ramStore_sp : (ramStore i v s).sp = s.sp := rfl
@[simp] theorem ramStore_p : (ramStore i v s).p = s.p := rfl
@[simp] theorem ramStore_pc : (ramStore i v s).pc = s.pc := rfl
@[simp] theorem ramStore_running : (ramStore i v s).running = s.running := rfl
@[simp] theorem ramStore_cycles : (ramStore i v s).cycles = s.cycles := rfl
@[simp] theorem ramStore_fault : (ramStore i v s).fault = s.fault := rfl
@[simp] theorem ramStore_ram : (ramStore i v s).ram = Memory.write i v s.ram := rfl
@[simp] theorem ramStore_cart : (ramStore i v s).cart = s.cart := rfl
@[simp] theorem ramStore_params : (ramStore i v s).params = s.params := rfl
@[simp] theorem ramStore_ppu : (ramStore i v s).ppu = s.ppu := rfl
@[simp] theorem ramStore_pad1 : (ramStore i v s).pad1 = s.pad1 := rfl
@[simp] theorem ramStore_pad2 : (ramStore i v s).pad2 = s.pad2 := rfl
@[simp] theorem ramStore_stopRequest : (ramStore i v s).stopRequest = s.stopRequest := rfl
@[simp] theorem ramStore_draws : (ramStore i v s).draws = s.draws := rfl
end

section
variable (v : Byte) (s : State)
@[simp] theorem push_a : (push v s).a = s.a := rfl
@[simp] theorem push_x : (push v s).x = s.x := rfl
@[simp] theorem push_y : (push v s).y = s.y := rfl
@[simp] theorem push_sp : (push v s).sp = s.sp - 1 := rfl
@[simp] theorem push_p : (push v s).p = s.p := rfl
@[simp] theorem push_pc : (push v s).pc = s.pc := rfl
@[simp] theorem push_running : (push v s).running = s.running := rfl
@[simp] theorem push_cycles : (push v s).cycles = s.cycles := rfl
@[simp] theorem push_fault : (push v s).fault = s.fault := rfl
@[simp] theorem push_ram : (push v s).ram = Memory.write (stackIndex s.sp) v s.ram := rfl
@[simp] theorem push_cart : (push v s).cart = s.cart := rfl
@[simp] theorem push_params : (push v s).params = s.params := rfl
@[simp] theorem push_ppu : (push v s).ppu = s.ppu := rfl
@[simp] theorem push_pad1 : (push v s).pad1 = s.pad1 := rfl
@[simp] theorem push_pad2 : (push v s).pad2 = s.pad2 := rfl
@[simp] theorem push_stopRequest : (push v s).stopRequest = s.stopRequest := rfl
@[simp] theorem push_draws : (push v s).draws = s.draws := rfl
end

section
variable (s : State)
@[simp] theorem afterPull_a : (afterPull s).a = s.a := rfl
@[simp] theorem afterPull_x : (afterPull s).x = s.x := rfl
@[simp] theorem afterPull_y : (afterPull s).y = s.y := rfl
@[simp] theorem afterPull_sp : (afterPull s).sp = s.sp + 1 := rfl
@[simp] theorem afterPull_p : (afterPull s).p = s.p := rfl
@[simp] theorem afterPull_pc : (afterPull s).pc = s.pc := rfl
@[simp] theorem afterPull_running : (afterPull s).running = s.running := rfl
@[simp] theorem afterPull_cycles : (afterPull s).cycles = s.cycles := rfl
@[simp] theorem afterPull_fault : (afterPull s).fault = s.fault := rfl
@[simp] theorem afterPull_ram : (afterPull s).ram = s.ram := rfl
@[simp] theorem afterPull_cart : (afterPull s).cart = s.cart := rfl
@[simp] theorem afterPull_params : (afterPull s).params = s.params := rfl
@[simp] theorem afterPull_ppu : (afterPull s).ppu = s.ppu := rfl
@[simp] theorem afterPull_pad1 : (afterPull s).pad1 = s.pad1 := rfl
@[simp] theorem afterPull_pad2 : (afterPull s).pad2 = s.pad2 := rfl
@[simp] theorem afterPull_stopRequest : (afterPull s).stopRequest = s.stopRequest := rfl
@[simp] theorem afterPull_draws : (afterPull s).draws = s.draws := rfl
@[simp] theorem stopRun_a : (stopRun s).a = s.a := rfl
@[simp] theorem stopRun_x : (stopRun s).x = s.x := rfl
@[simp] theorem stopRun_y : (stopRun s).y = s.y := rfl
@[simp] theorem stopRun_sp : (stopRun s).sp = s.sp := rfl
@[simp] theorem stopRun_p : (stopRun s).p = s.p := rfl
@[simp] theorem stopRun_pc : (stopRun s).pc = s.pc := rfl
@[simp] theorem stopRun_running : (stopRun s).running = false := rfl
@[simp] theorem stopRun_cycles : (stopRun s).cycles = s.cycles := rfl
@[simp] theorem stopRun_fault : (stopRun s).fault = s.fault := rfl
@[simp] theorem stopRun_ram : (stopRun s).ram = s.ram := rfl
@[simp] theorem stopRun_cart : (stopRun s).cart = s.cart := rfl
@[simp] theorem stopRun_params : (stopRun s).params = s.params := rfl
@[simp] theorem stopRun_ppu : (stopRun s).ppu = s.ppu := rfl
@[simp] theorem stopRun_pad1 : (stopRun s).pad1 = s.pad1 := rfl
@[simp] theorem stopRun_pad2 : (stopRun s).pad2 = s.pad2 := rfl
@[simp] theorem stopRun_stopRequest : (stopRun s).stopRequest = false := rfl
@[simp] theorem stopRun_draws : (stopRun s).draws = s.draws := rfl
end

end Sys2Proof.Machine
end

