-- ==== Sys2Proof/Laws/Ops.lean ====
section
/-! SUPPORT. One lemma per shared operation that says what it can do: which fields it leaves, when it completes, that the stack, the
zero-page pointers and the vectors are the bus accesses the rules name, and that it keeps the memories' canonical form. -/

namespace Sys2Proof.Machine

/-- `t` is `s` but for the devices a bus read can touch: the PPU, the pads and the count of draws. -/
def OnlyDevices (s t : State) : Prop :=
  t = { s with ppu := t.ppu, pad1 := t.pad1, pad2 := t.pad2, draws := t.draws }

theorem OnlyDevices.refl (s : State) : OnlyDevices s s := rfl

theorem OnlyDevices.trans {s t u : State} (h : OnlyDevices s t) (h' : OnlyDevices t u) : OnlyDevices s u := by
  unfold OnlyDevices at *
  rw [h'] ; rw [h]

theorem OnlyDevices.setPpu (s : State) (u : Ppu) : OnlyDevices s (s.setPpu u) := rfl

section
variable {s t : State} (h : OnlyDevices s t)
include h
theorem OnlyDevices.a : t.a = s.a := by rw [h]
theorem OnlyDevices.x : t.x = s.x := by rw [h]
theorem OnlyDevices.y : t.y = s.y := by rw [h]
theorem OnlyDevices.sp : t.sp = s.sp := by rw [h]
theorem OnlyDevices.p : t.p = s.p := by rw [h]
theorem OnlyDevices.pc : t.pc = s.pc := by rw [h]
theorem OnlyDevices.running : t.running = s.running := by rw [h]
theorem OnlyDevices.cycles : t.cycles = s.cycles := by rw [h]
theorem OnlyDevices.fault : t.fault = s.fault := by rw [h]
theorem OnlyDevices.ram : t.ram = s.ram := by rw [h]
theorem OnlyDevices.cart : t.cart = s.cart := by rw [h]
theorem OnlyDevices.params : t.params = s.params := by rw [h]
theorem OnlyDevices.stopRequest : t.stopRequest = s.stopRequest := by rw [h]
end

/-! ### The owners of addresses -/

theorem ownerOf_eq_ram {a : Word} : ownerOf a = .ram ↔ a.toNat < 0x2000 := by
  unfold ownerOf; split
  · simp [*]
  · split
    · simp [*]
    · split
      · simp [*]
      · split <;> simp [*]

theorem ownerOf_ram {a : Word} (h : a.toNat < 0x2000) : ownerOf a = .ram := ownerOf_eq_ram.mpr h

theorem ownerOf_ppuPort {a : Word} (h : 0x2000 ≤ a.toNat) (h' : a.toNat < 0x4000) : ownerOf a = .ppuPort := by
  unfold ownerOf
  rw [if_neg (by omega), if_pos h']

theorem ownerOf_io {a : Word} (h : 0x4000 ≤ a.toNat) (h' : a.toNat < 0x4020) : ownerOf a = .io := by
  unfold ownerOf
  rw [if_neg (by omega), if_neg (by omega), if_pos h']

theorem ownerOf_unmapped {a : Word} (h : 0x4020 ≤ a.toNat) (h' : a.toNat < 0x8000) : ownerOf a = .unmapped := by
  unfold ownerOf
  rw [if_neg (by omega), if_neg (by omega), if_neg (by omega), if_pos h']

theorem ownerOf_prgRom {a : Word} (h : 0x8000 ≤ a.toNat) : ownerOf a = .prgRom := by
  unfold ownerOf
  rw [if_neg (by omega), if_neg (by omega), if_neg (by omega), if_neg (by omega)]

/-! ### Bus reads -/

theorem busRead_ram (pc0 : Word) {a : Word} (s : State) (h : a.toNat < 0x2000) : busRead pc0 a s = .ok (ramByte s (ramIndex a)) s := by
  simp [busRead, ownerOf_ram h]

theorem busRead_prgRom (pc0 : Word) {a : Word} (s : State) (h : 0x8000 ≤ a.toNat) : busRead pc0 a s = .ok (prgByte s.cart a) s := by
  simp [busRead, ownerOf_prgRom h]

theorem portRead_onlyDevices {pc0 a : Word} {s t : State} {v : Byte} (h : portRead pc0 a s = .ok v t) : OnlyDevices s t := by
  unfold portRead at h
  split at h <;> first | (cases h; rfl) | cases h

theorem ioRead_onlyDevices {pc0 a : Word} {s t : State} {v : Byte} (h : ioRead pc0 a s = .ok v t) : OnlyDevices s t := by
  unfold ioRead at h
  split at h <;> first | (cases h; rfl) | cases h

/-- A bus read that completes changes no register, no RAM, no cartridge. -/
theorem busRead_onlyDevices {pc0 a : Word} {s t : State} {v : Byte} (h : busRead pc0 a s = .ok v t) : OnlyDevices s t := by
  unfold busRead at h
  split at h
  · cases h; rfl
  · exact portRead_onlyDevices h
  · exact ioRead_onlyDevices h
  · cases h
  · cases h; rfl

/-- Only 0x4014 is the OAM-DMA register (20_memory.md R50). -/
theorem ioRegOf_eq_oamDma {a : Word} : ioRegOf a = .oamDma ↔ a.toNat = 0x4014 := by
  have h : a.toNat = 0x4014 ↔ a = 0x4014 := by rw [← BitVec.toNat_inj]; rfl
  unfold ioRegOf
  rw [h]
  split
  · simp [*]
  · split
    · simp [*]
    · next h1 _ => split <;> exact ⟨fun h => (nomatch h), fun h => absurd h h1⟩

theorem ioRead_ok_iff (pc0 a : Word) (s : State) : (∃ v t, ioRead pc0 a s = .ok v t) ↔ a.toNat ≠ 0x4014 := by
  rw [Ne, ← ioRegOf_eq_oamDma]
  cases h : ioRegOf a <;> simp [ioRead, h]

/-- A PPU port that can be read is 0x2002, 0x2004 or 0x2007 (20_memory.md R49). -/
theorem portRead_ok_iff (pc0 a : Word) (s : State) :
    (∃ v t, portRead pc0 a s = .ok v t) ↔ (a.toNat % 8 = 2 ∨ a.toNat % 8 = 4 ∨ a.toNat % 8 = 7) := by
  have hlt : a.toNat % 8 < 8 := Nat.mod_lt _ (by decide)
  generalize hk : a.toNat % 8 = k at hlt
  have : k = 0 ∨ k = 1 ∨ k = 2 ∨ k = 3 ∨ k = 4 ∨ k = 5 ∨ k = 6 ∨ k = 7 := by omega
  rcases this with rfl | rfl | rfl | rfl | rfl | rfl | rfl | rfl <;> simp [portRead, portOf, hk]

/-- A bus read completes exactly where `readable` says so. -/
theorem busRead_ok_iff (pc0 a : Word) (s : State) : (∃ v t, busRead pc0 a s = .ok v t) ↔ readable a = true := by
  have hlt : a.toNat < 0x10000 := a.isLt
  by_cases h1 : a.toNat < 0x2000
  · simp [busRead_ram pc0 s h1, readable, h1]
  by_cases h2 : a.toNat < 0x4000
  · have h1' : 0x2000 ≤ a.toNat := by omega
    have hr := portRead_ok_iff pc0 a s
    simp only [busRead, ownerOf_ppuPort h1' h2]
    rw [hr]
    simp [readable, h1, h2, h1']
    omega
  by_cases h3 : a.toNat < 0x4020
  · have h2' : 0x4000 ≤ a.toNat := by omega
    simp only [busRead, ownerOf_io h2' h3]
    rw [ioRead_ok_iff]
    simp [readable, h1, h2', h3]
    omega
  by_cases h4 : a.toNat < 0x8000
  · have h3' : 0x4020 ≤ a.toNat := by omega
    simp [busRead, ownerOf_unmapped h3' h4, readable]
    omega
  · have h4' : 0x8000 ≤ a.toNat := by omega
    simp [busRead_prgRom pc0 s h4', readable, h4']

/-! ### Bus writes -/

/-- `t` is `s` but for RAM and the devices a bus write can touch. -/
def OnlyRamAndDevices (s t : State) : Prop :=
  t = { s with ram := t.ram, ppu := t.ppu, pad1 := t.pad1, pad2 := t.pad2, draws := t.draws }

theorem OnlyDevices.toRam {s t : State} (h : OnlyDevices s t) : OnlyRamAndDevices s t := by
  unfold OnlyRamAndDevices
  rw [h]

section
variable {s t : State} (h : OnlyRamAndDevices s t)
include h
theorem OnlyRamAndDevices.a : t.a = s.a := by rw [h]
theorem OnlyRamAndDevices.x : t.x = s.x := by rw [h]
theorem OnlyRamAndDevices.y : t.y = s.y := by rw [h]
theorem OnlyRamAndDevices.sp : t.sp = s.sp := by rw [h]
theorem OnlyRamAndDevices.p : t.p = s.p := by rw [h]
theorem OnlyRamAndDevices.pc : t.pc = s.pc := by rw [h]
theorem OnlyRamAndDevices.running : t.running = s.running := by rw [h]
theorem OnlyRamAndDevices.cycles : t.cycles = s.cycles := by rw [h]
theorem OnlyRamAndDevices.fault : t.fault = s.fault := by rw [h]
theorem OnlyRamAndDevices.cart : t.cart = s.cart := by rw [h]
theorem OnlyRamAndDevices.params : t.params = s.params := by rw [h]
theorem OnlyRamAndDevices.stopRequest : t.stopRequest = s.stopRequest := by rw [h]
end

theorem dmaCopy_onlyDevices {pc0 : Word} {page : Byte} {n : Nat} {s t : State} {u : Unit} (h : dmaCopy pc0 page n s = .ok u t) :
    OnlyDevices s t := by
  induction n generalizing s with
  | zero => cases h; rfl
  | succ k ih =>
    simp only [dmaCopy] at h
    split at h
    · cases h
    · next b s1 hr => exact ((busRead_onlyDevices hr).trans (OnlyDevices.setPpu _ _)).trans (ih h)

theorem portWrite_onlyDevices {pc0 a : Word} {v : Byte} {s t : State} {u : Unit} (h : portWrite pc0 a v s = .ok u t) :
    OnlyDevices s t := by
  unfold portWrite at h
  split at h
  all_goals first | (cases h; rfl) | cases h | skip
  split at h
  · cases h
  · cases h; rfl

theorem ioWrite_onlyDevices {pc0 a : Word} {v : Byte} {s t : State} {u : Unit} (h : ioWrite pc0 a v s = .ok u t) : OnlyDevices s t := by
  unfold ioWrite at h
  split at h
  · exact dmaCopy_onlyDevices h
  all_goals cases h; rfl

/-- What a bus write that completes can change: RAM if the address is RAM, else only devices. -/
theorem busWrite_cases {pc0 a : Word} {v : Byte} {s t : State} {u : Unit} (h : busWrite pc0 a v s = .ok u t) :
    (a.toNat < 0x2000 ∧ t = ramStore (ramIndex a) v s) ∨ (0x2000 ≤ a.toNat ∧ OnlyDevices s t) := by
  by_cases h1 : a.toNat < 0x2000
  · left; simp only [busWrite, ownerOf_ram h1] at h; cases h; exact ⟨h1, rfl⟩
  · right
    refine ⟨by omega, ?_⟩
    unfold busWrite at h
    split at h
    · next h2 => exact absurd (ownerOf_eq_ram.mp h2) h1
    · exact portWrite_onlyDevices h
    · exact ioWrite_onlyDevices h
    · cases h
    · cases h

theorem busWrite_onlyRamAndDevices {pc0 a : Word} {v : Byte} {s t : State} {u : Unit} (h : busWrite pc0 a v s = .ok u t) :
    OnlyRamAndDevices s t := by
  rcases busWrite_cases h with ⟨_, rfl⟩ | ⟨_, h'⟩
  · rfl
  · exact h'.toRam

/-- A bus write changes no RAM byte but the one its address folds to. -/
theorem busWrite_ramByte {pc0 a : Word} {v : Byte} {s t : State} {u : Unit} (h : busWrite pc0 a v s = .ok u t) (k : Nat)
    (hk : k ∉ ramCellOf a) : ramByte t k = ramByte s k := by
  rcases busWrite_cases h with ⟨h1, rfl⟩ | ⟨_, h'⟩
  · simp only [ramCellOf, h1, if_true, List.mem_singleton] at hk
    exact Memory.read_write_ne _ (Ne.symm hk) _ _
  · simp only [ramByte, h'.ram]

/-- OAM-DMA completes from a page whose 256 bytes are readable. -/
theorem dmaCopy_ok {pc0 : Word} {page : Byte} {n : Nat} (s : State) (hr : ∀ l : Byte, readable (mk16 page l) = true) :
    ∃ t, dmaCopy pc0 page n s = .ok () t := by
  induction n generalizing s with
  | zero => exact ⟨s, rfl⟩
  | succ k ih =>
    obtain ⟨b, s1, h1⟩ := (busRead_ok_iff pc0 (mk16 page (BitVec.ofNat 8 (255 - k))) s).mpr (hr _)
    obtain ⟨t, ht⟩ := ih (s1.setPpu (ppuWriteOamData b s1.ppu))
    exact ⟨t, by simp only [dmaCopy, h1, ht]⟩

theorem mk16_toNat (h l : Byte) : (mk16 h l).toNat = 256 * h.toNat + l.toNat := by
  have hl := l.isLt
  simp only [mk16, BitVec.toNat_append]
  rw [← Nat.shiftLeft_add_eq_or_of_lt hl, Nat.shiftLeft_eq]
  omega

/-- OAM-DMA stops on a page one byte of which is not readable. -/
theorem dmaCopy_fault {pc0 : Word} {page : Byte} {n i : Nat} (s : State) (hi : 255 - i < n) (hi' : i ≤ 255)
    (hr : readable (mk16 page (BitVec.ofNat 8 i)) = false) : ∃ f, dmaCopy pc0 page n s = .fault f := by
  induction n generalizing s with
  | zero => omega
  | succ k ih =>
    cases h1 : busRead pc0 (mk16 page (BitVec.ofNat 8 (255 - k))) s with
    | fault f => exact ⟨f, by simp only [dmaCopy, h1]⟩
    | ok b s1 =>
      by_cases hk : 255 - i = k
      · have : readable (mk16 page (BitVec.ofNat 8 (255 - k))) = true := (busRead_ok_iff pc0 _ s).mp ⟨b, s1, h1⟩
        rw [show 255 - k = i by omega, hr] at this
        cases this
      · obtain ⟨f, hf⟩ := ih (s1.setPpu (ppuWriteOamData b s1.ppu)) (by omega)
        exact ⟨f, by simp only [dmaCopy, h1, hf]⟩

theorem dma_ok_iff (pc0 : Word) (page : Byte) (s : State) :
    (∃ t, dmaCopy pc0 page 256 s = .ok () t) ↔ (page.toNat < 0x20 ∨ 0x80 ≤ page.toNat) := by
  have hp := page.isLt
  constructor
  · rintro ⟨t, ht⟩
    by_contra hc
    have key : ∀ i : Nat, i ≤ 255 → readable (mk16 page (BitVec.ofNat 8 i)) = false → False := fun i hi hr => by
      obtain ⟨f, hf⟩ := dmaCopy_fault (pc0 := pc0) (n := 256) s (by omega) hi hr
      rw [hf] at ht; cases ht
    by_cases h1 : page.toNat < 0x40
    · exact key 0 (by decide) (by simp [readable, mk16_toNat]; omega)
    · by_cases h2 : page.toNat = 0x40
      · exact key 0x14 (by decide) (by simp [readable, mk16_toNat, h2])
      · exact key 0 (by decide) (by simp [readable, mk16_toNat]; omega)
  · intro h
    refine dmaCopy_ok s fun l => ?_
    have hl := l.isLt
    simp only [readable, mk16_toNat, Bool.or_eq_true, decide_eq_true_eq]
    omega

theorem portWrite_ok_iff (pc0 a : Word) (v : Byte) (s : State) :
    (∃ t, portWrite pc0 a v s = .ok () t) ↔ (a.toNat % 8 ≠ 2 ∧ (a.toNat % 8 = 7 → 0x2000 ≤ s.ppu.v.toNat)) := by
  have hlt : a.toNat % 8 < 8 := Nat.mod_lt _ (by decide)
  generalize hk : a.toNat % 8 = k at hlt
  have : k = 0 ∨ k = 1 ∨ k = 2 ∨ k = 3 ∨ k = 4 ∨ k = 5 ∨ k = 6 ∨ k = 7 := by omega
  rcases this with rfl | rfl | rfl | rfl | rfl | rfl | rfl | rfl <;> simp [portWrite, portOf, hk]
  split <;> simp <;> omega

theorem ioWrite_ok_iff (pc0 a : Word) (v : Byte) (s : State) :
    (∃ t, ioWrite pc0 a v s = .ok () t) ↔ (a.toNat = 0x4014 → v.toNat < 0x20 ∨ 0x80 ≤ v.toNat) := by
  rw [← ioRegOf_eq_oamDma, ← dma_ok_iff pc0 v s]
  cases h : ioRegOf a <;> simp [ioWrite, h]

/-- A bus write completes exactly where `writable` says so. -/
theorem busWrite_ok_iff (pc0 a : Word) (v : Byte) (s : State) : (∃ t, busWrite pc0 a v s = .ok () t) ↔ writable a v s = true := by
  have hlt : a.toNat < 0x10000 := a.isLt
  by_cases h1 : a.toNat < 0x2000
  · simp [busWrite, ownerOf_ram h1, writable, h1]
  by_cases h2 : a.toNat < 0x4000
  · have h1' : 0x2000 ≤ a.toNat := by omega
    simp only [busWrite, ownerOf_ppuPort h1' h2, portWrite_ok_iff]
    simp [writable, h1, h2, h1', show ¬ 0x4000 ≤ a.toNat by omega]
    omega
  by_cases h3 : a.toNat < 0x4020
  · have h2' : 0x4000 ≤ a.toNat := by omega
    simp only [busWrite, ownerOf_io h2' h3]
    rw [ioWrite_ok_iff]
    simp [writable, h1, h2', h3]
    omega
  by_cases h4 : a.toNat < 0x8000
  · have h3' : 0x4020 ≤ a.toNat := by omega
    simp [busWrite, ownerOf_unmapped h3' h4, writable]
    omega
  · have h4' : 0x8000 ≤ a.toNat := by omega
    simp [busWrite, ownerOf_prgRom h4', writable]
    omega

/-- Where `modifiable` says so, a read and then a write of any byte both complete, whatever P is between them. -/
theorem modifiable_ok {pc0 a : Word} {s : State} (h : modifiable a s = true) :
    ∃ v s1, busRead pc0 a s = .ok v s1 ∧ ∀ (r p : Byte), ∃ s2, busWrite pc0 a r { s1 with p := p } = .ok () s2 := by
  have hlt : a.toNat < 0x10000 := a.isLt
  simp only [modifiable, Bool.or_eq_true, Bool.and_eq_true, decide_eq_true_eq] at h
  have hr : readable a = true := by
    simp only [readable, Bool.or_eq_true, Bool.and_eq_true, decide_eq_true_eq]
    omega
  obtain ⟨v, s1, h1⟩ := (busRead_ok_iff pc0 a s).mpr hr
  refine ⟨v, s1, h1, fun r p => (busWrite_ok_iff pc0 a r { s1 with p := p }).mpr ?_⟩
  simp only [writable, Bool.or_eq_true, Bool.and_eq_true, decide_eq_true_eq]
  rcases h with (h | ⟨h2, h4 | ⟨h7, hv⟩⟩) | h
  · exact .inl (.inl h)
  · exact .inl (.inr ⟨⟨h2, by omega⟩, by omega⟩)
  · refine .inl (.inr ⟨⟨h2, by omega⟩, fun _ => ?_⟩)
    have hp : portOf a = .data := by simp only [portOf, h7]
    simp only [busRead, ownerOf_ppuPort h2.1 h2.2, portRead, hp] at h1
    cases h1
    show 0x2000 ≤ (ppuAfterDataRead s.cart s.params.readBuffered s.ppu).v.toNat
    have he : (ppuAfterDataRead s.cart s.params.readBuffered s.ppu).v = (vramIncrement s.ppu).v := by
      unfold ppuAfterDataRead; split <;> rfl
    rw [he]; exact hv
  · exact .inr ⟨⟨h.1, h.2.1⟩, fun he => absurd he h.2.2⟩

/-! ### The stack, the zero-page pointers and the vectors are the bus accesses the rules name -/

/-- The CPU address of the stack byte that `sp` designates. -/
def stackAddress (sp : Byte) : Word := mk16 1 sp

theorem ramIndex_stackAddress (sp : Byte) : ramIndex (stackAddress sp) = stackIndex sp := by
  have := sp.isLt
  simp only [ramIndex, stackAddress, mk16_toNat, stackIndex, show (1 : Byte).toNat = 1 from rfl]
  omega

/-- `Push(v)` is `MemWrite(0x0100 + SP, 1, v)` and then the decrement (R120). -/
theorem push_is_busWrite (pc0 : Word) (v : Byte) (s : State) :
    ∃ t, busWrite pc0 (stackAddress s.sp) v s = .ok () t ∧ push v s = t.setSp (s.sp - 1) := by
  have := s.sp.isLt
  refine ⟨ramStore (stackIndex s.sp) v s, ?_, rfl⟩
  rw [← ramIndex_stackAddress]
  simp [busWrite, ownerOf_ram (a := stackAddress s.sp) (by simp only [stackAddress, mk16_toNat]; simp; omega)]

/-- `Pull()` is the increment and then `MemRead(0x0100 + SP, 1)` (R121). -/
theorem pull_is_busRead (pc0 : Word) (s : State) :
    busRead pc0 (stackAddress (s.sp + 1)) (afterPull s) = .ok (pulled s) (afterPull s) := by
  have := (s.sp + 1).isLt
  rw [busRead_ram _ _ (by simp only [stackAddress, mk16_toNat]; simp; omega), ramIndex_stackAddress]
  rfl

/-- A zero-page pointer byte is a bus read of page 0 (R117, R118). -/
theorem zeroPage_is_busRead (pc0 : Word) (z : Byte) (s : State) : busRead pc0 (zext16 z) s = .ok (ramByte s z.toNat) s := by
  have := z.isLt
  have hz : (zext16 z).toNat = z.toNat := by simp [zext16]; omega
  rw [busRead_ram _ _ (by rw [hz]; omega)]
  simp only [ramIndex, hz, Nat.mod_eq_of_lt (show z.toNat < 0x800 by omega)]

/-- A vector is two bus reads of PRG ROM (20_memory.md R62). -/
theorem vector_is_busRead (pc0 a : Word) (s : State) (h : 0x8000 ≤ a.toNat) (h' : a.toNat < 0xFFFF) :
    ∃ lo hi, busRead pc0 a s = .ok lo s ∧ busRead pc0 (a + 1) s = .ok hi s ∧ prgWord s.cart a = mk16 hi lo := by
  refine ⟨_, _, busRead_prgRom pc0 s h, busRead_prgRom pc0 s ?_, rfl⟩
  simp only [BitVec.toNat_add]
  simp
  omega

/-! ### The stack cells a push writes, taking a trap and returning from one -/

theorem ramByte_of_ram {s t : State} (h : s.ram = t.ram) (k : Nat) : ramByte s k = ramByte t k := by
  unfold ramByte
  rw [h]

theorem stackIndex_inj {a b : Byte} : stackIndex a = stackIndex b ↔ a = b := by
  unfold stackIndex
  constructor
  · intro h; exact BitVec.eq_of_toNat_eq (by omega)
  · rintro rfl; rfl

/-- A push writes the one cell SP designates. -/
theorem ramByte_push (v : Byte) (s : State) (k : Nat) : ramByte (push v s) k = if k = stackIndex s.sp then v else ramByte s k := by
  unfold ramByte
  rw [push_ram]
  split
  · next h => subst h; exact Memory.read_write_same _ _ _ _
  · next h => exact Memory.read_write_ne _ (Ne.symm h) _ _

/-- A two-byte push writes the two cells from SP downwards, the high byte first. -/
theorem ramByte_push16 (w : Word) (s : State) (k : Nat) :
    ramByte (push16 w s) k =
      if k = stackIndex (s.sp - 1) then loByte w else if k = stackIndex s.sp then hiByte w else ramByte s k := by
  rw [push16, ramByte_push, ramByte_push]
  rfl

/-- A two-byte push changes SP and RAM, nothing else. -/
theorem push16_frame (w : Word) (s : State) : push16 w s = { s with sp := s.sp - 2, ram := (push16 w s).ram } := by
  have : s.sp - 1 - 1 = s.sp - 2 := by bv_omega
  rw [← this]; rfl

/-- Taking a trap writes three stack cells: the return address, high byte first, and the status (60_exceptions.md R227). -/
theorem ramByte_trapEntry (ret : Word) (st : Byte) (s : State) (k : Nat) :
    ramByte (trapEntry ret st s) k =
      if k = stackIndex (s.sp - 2) then st else if k = stackIndex (s.sp - 1) then loByte ret
      else if k = stackIndex s.sp then hiByte ret else ramByte s k := by
  have h : (trapEntry ret st s).ram = (push st (push16 ret s)).ram := rfl
  have h1 : (push16 ret s).sp = s.sp - 2 := by rw [push16_frame]
  rw [ramByte_of_ram h, ramByte_push, ramByte_push16, h1]

/-- Taking a trap changes SP, I and RAM, nothing else (R227). -/
theorem trapEntry_frame (ret : Word) (st : Byte) (s : State) :
    trapEntry ret st s = { s with sp := s.sp - 3, p := setFlag .i true s.p, ram := (trapEntry ret st s).ram } := by
  have : s.sp - 1 - 1 - 1 = s.sp - 3 := by bv_omega
  rw [← this]; rfl

/-- Returning from a trap pulls the status and then PC (R228). -/
theorem trapReturn_eq (s : State) :
    trapReturn s = { s with
      sp := s.sp + 3
      p := mergeStatus (ramByte s (stackIndex (s.sp + 1))) s.p
      pc := mk16 (ramByte s (stackIndex (s.sp + 3))) (ramByte s (stackIndex (s.sp + 2))) } := by
  have e2 : s.sp + 1 + 1 = s.sp + 2 := by bv_omega
  have e3 : s.sp + 2 + 1 = s.sp + 3 := by bv_omega
  rw [← e3, ← e2]; rfl

/-! ### Time -/

/-- `Tick` changes the cycle total, the PPU, the pads' buttons and the draws, nothing else (20_memory.md R56). -/
theorem tick_frame (n : Nat) (s : State) :
    tick n s = { s with
      cycles := s.cycles + n, ppu := (tick n s).ppu, pad1 := (tick n s).pad1, pad2 := (tick n s).pad2, draws := (tick n s).draws } := by
  unfold tick
  split <;> rfl

section
variable (n : Nat) (s : State)
@[simp] theorem tick_a : (tick n s).a = s.a := by rw [tick_frame]
@[simp] theorem tick_x : (tick n s).x = s.x := by rw [tick_frame]
@[simp] theorem tick_y : (tick n s).y = s.y := by rw [tick_frame]
@[simp] theorem tick_sp : (tick n s).sp = s.sp := by rw [tick_frame]
@[simp] theorem tick_p : (tick n s).p = s.p := by rw [tick_frame]
@[simp] theorem tick_pc : (tick n s).pc = s.pc := by rw [tick_frame]
@[simp] theorem tick_running : (tick n s).running = s.running := by rw [tick_frame]
@[simp] theorem tick_cycles : (tick n s).cycles = s.cycles + n := by rw [tick_frame]
@[simp] theorem tick_fault : (tick n s).fault = s.fault := by rw [tick_frame]
@[simp] theorem tick_ram : (tick n s).ram = s.ram := by rw [tick_frame]
@[simp] theorem tick_cart : (tick n s).cart = s.cart := by rw [tick_frame]
@[simp] theorem tick_params : (tick n s).params = s.params := by rw [tick_frame]
@[simp] theorem tick_stopRequest : (tick n s).stopRequest = s.stopRequest := by rw [tick_frame]
end

/-- `t` is `u` but for the counters, the status, the pending NMI and the frame: what time can change. -/
def OnlyTime (u t : Ppu) : Prop :=
  t = { u with status := t.status, scanline := t.scanline, dot := t.dot, nmiPending := t.nmiPending, frame := t.frame }

theorem lineDone_onlyTime (u : Ppu) : OnlyTime u (lineDone u) := by
  unfold lineDone latchSprite0 vblankEnter frameEnd
  dsimp only
  split <;> split <;> split <;> rfl

theorem ppuAdvance_onlyTime (n : Nat) (u : Ppu) : OnlyTime u (ppuAdvance n u) := by
  unfold ppuAdvance
  split
  · unfold OnlyTime; rw [lineDone_onlyTime]
  · rfl

theorem tick_ppu_onlyTime (n : Nat) (s : State) : OnlyTime s.ppu (tick n s).ppu := by
  unfold tick
  split
  · unfold OnlyTime
    simp only [hostFrame, render, advanceTime, State.setPpu_ppu]
    rw [ppuAdvance_onlyTime]
  · exact ppuAdvance_onlyTime _ _

end Sys2Proof.Machine
end

