-- ==== Sys2Proof/Laws/Shapes.lean ====
section
/-! SUPPORT. What each instruction shape of Machine/Operands.lean can answer: the inversion of a next state, and when it completes. -/

namespace Sys2Proof.Machine

section
variable {cycles : Nat} {penalty : Bool} {m : MemMode} {s t : State}

/-- A reading instruction that answers a next state made its read. -/
theorem execRead_next {op : Byte → State → State} (h : execRead cycles penalty op m s = .next t) :
    ∃ v s1, busRead s.pc (m.ea s) (s.atNext m.length) = .ok v s1 ∧ t = tick (memCycles cycles penalty m s) (op v s1) := by
  unfold execRead at h
  split at h
  · cases h
  · next v s1 hr => cases h; exact ⟨v, s1, hr, rfl⟩

/-- A reading instruction completes where its operand is readable. -/
theorem execRead_completes (op : Byte → State → State) (h : readable (m.ea s) = true) :
    ∃ v s1, busRead s.pc (m.ea s) (s.atNext m.length) = .ok v s1 ∧
      execRead cycles penalty op m s = .next (tick (memCycles cycles penalty m s) (op v s1)) := by
  obtain ⟨v, s1, hr⟩ := (busRead_ok_iff s.pc (m.ea s) (s.atNext m.length)).mpr h
  exact ⟨v, s1, hr, by simp only [execRead, hr]⟩

/-- A storing instruction that answers a next state made its write. -/
theorem execStore_next {val : State → Byte} (h : execStore cycles val m s = .next t) :
    ∃ s1, busWrite s.pc (m.ea s) (val s) (s.atNext m.length) = .ok () s1 ∧ t = tick cycles s1 := by
  unfold execStore at h
  split at h
  · cases h
  · next s1 hr => cases h; exact ⟨s1, hr, rfl⟩

/-- A storing instruction completes where its target is writable. -/
theorem execStore_completes (val : State → Byte) (h : writable (m.ea s) (val s) (s.atNext m.length) = true) :
    ∃ s1, busWrite s.pc (m.ea s) (val s) (s.atNext m.length) = .ok () s1 ∧ execStore cycles val m s = .next (tick cycles s1) := by
  obtain ⟨s1, hw⟩ := (busWrite_ok_iff s.pc (m.ea s) (val s) (s.atNext m.length)).mpr h
  exact ⟨s1, hw, by simp only [execStore, hw]⟩

variable {result : Byte → State → Byte} {before : Byte → State → State} {after : Byte → Byte → State → State}

/-- A read-modify-write instruction that answers a next state made its read and its write. -/
theorem execModify_next (h : execModify cycles result before after m s = .next t) :
    ∃ v s1 s2, busRead s.pc (m.ea s) (s.atNext m.length) = .ok v s1 ∧
      busWrite s.pc (m.ea s) (result v s1) (before v s1) = .ok () s2 ∧ t = tick cycles (after v (result v s1) s2) := by
  unfold execModify at h
  split at h
  · cases h
  · next v s1 hr =>
    split at h
    · cases h
    · next s2 hw => cases h; exact ⟨v, s1, s2, hr, hw, rfl⟩

/-- A read-modify-write instruction completes where its operand is readable and then writable. -/
theorem execModify_completes (h : readable (m.ea s) = true) :
    ∃ v s1, busRead s.pc (m.ea s) (s.atNext m.length) = .ok v s1 ∧
      (writable (m.ea s) (result v s1) (before v s1) = true →
        ∃ s2, busWrite s.pc (m.ea s) (result v s1) (before v s1) = .ok () s2 ∧
          execModify cycles result before after m s = .next (tick cycles (after v (result v s1) s2))) := by
  obtain ⟨v, s1, hr⟩ := (busRead_ok_iff s.pc (m.ea s) (s.atNext m.length)).mpr h
  refine ⟨v, s1, hr, fun hwr => ?_⟩
  obtain ⟨s2, hw⟩ := (busWrite_ok_iff s.pc (m.ea s) (result v s1) (before v s1)).mpr hwr
  exact ⟨s2, hw, by simp only [execModify, hr, hw]⟩

end

/-- A branch always completes (42_control_flow.md R150): PC is the target or `next`, nothing else but time passes. -/
theorem execBranch_next {cycles : Nat} {taken : State → Bool} {b1 : Byte} {s : State} :
    ∃ n w, execBranch cycles taken b1 s = .next (tick n ((s.atNext 2).setPc w)) := by
  unfold execBranch
  dsimp only
  split
  · exact ⟨_, _, rfl⟩
  · exact ⟨_, (s.atNext 2).pc, rfl⟩

/-- JMP indirect's two pointer reads leave the registers and RAM alone. -/
theorem indirectTarget_onlyDevices {pc0 addr w : Word} {s t : State} (h : indirectTarget pc0 addr s = .ok w t) : OnlyDevices s t := by
  unfold indirectTarget at h
  split at h
  · cases h
  · next lo s1 h1 =>
    split at h
    · cases h
    · next hi s2 h2 => cases h; exact (busRead_onlyDevices h1).trans (busRead_onlyDevices h2)

end Sys2Proof.Machine
end

