-- ==== Sys2Proof/Laws/Inv.lean ====
section
/-! SUPPORT. Every shared operation keeps the invariant `State.Inv` of Safety.lean: the memories' canonical form, the PPU's ranges,
the pads' indexes, the stored bits 4 and 5 of P. -/

namespace Sys2Proof.Machine

theorem and_3FFF_lt (w : Word) : (w &&& 0x3FFF).toNat < 0x4000 := by
  simp only [BitVec.toNat_and]
  exact Nat.lt_of_le_of_lt Nat.and_le_right (by decide)

theorem ntIndex_lt (m : Mirroring) (a : Nat) : ntIndex m a < 2048 := by
  unfold ntIndex
  cases m <;> simp only <;> omega

theorem palIndex_lt (a : Nat) : palIndex a < 32 := by
  unfold palIndex
  dsimp only
  split <;> omega

/-! ### The PPU -/

section
variable {u : Ppu} (h : Ppu.Inv u)
include h

theorem Ppu.Inv.increment : Ppu.Inv (vramIncrement u) := by
  exact { h with v := and_3FFF_lt _ }

theorem Ppu.Inv.vramWrite (m : Mirroring) (a : Nat) (v : Byte) : Ppu.Inv (Machine.vramWrite m a v u) := by
  unfold Machine.vramWrite
  split
  · exact h
  · exact { h with vram := Memory.wf_write v h.vram (ntIndex_lt m a) }
  · exact { h with palette := Memory.wf_write v h.palette (palIndex_lt a) }

theorem Ppu.Inv.writeData (m : Mirroring) (v : Byte) : Ppu.Inv (ppuWriteData m v u) :=
  Ppu.Inv.increment (Ppu.Inv.vramWrite h m _ v)

theorem Ppu.Inv.writeOamData (v : Byte) : Ppu.Inv (ppuWriteOamData v u) := by
  exact { h with oam := Memory.wf_write v h.oam u.oamAddr.isLt }

theorem Ppu.Inv.afterDataRead (c : Cartridge) (b : Bool) : Ppu.Inv (ppuAfterDataRead c b u) := by
  unfold ppuAfterDataRead
  apply Ppu.Inv.increment
  split
  · exact { h with }
  · exact h

theorem Ppu.Inv.afterStatusRead : Ppu.Inv (ppuAfterStatusRead u) := by
  have hs : (ppuAfterStatusRead u).status &&& 0x3F = 0 := by
    show u.status &&& 0x7F &&& 0x3F = 0
    rw [BitVec.and_assoc]
    exact h.status
  exact { h with status := hs }

theorem Ppu.Inv.writeAddress (v : Byte) : Ppu.Inv (ppuWriteAddress v u) := by
  unfold ppuWriteAddress
  split <;> exact { h with v := and_3FFF_lt _ }

theorem Ppu.Inv.writeControl (v : Byte) : Ppu.Inv (ppuWriteControl v u) := { h with }
theorem Ppu.Inv.writeMask (v : Byte) : Ppu.Inv (ppuWriteMask v u) := { h with }
theorem Ppu.Inv.writeOamAddr (v : Byte) : Ppu.Inv (ppuWriteOamAddr v u) := { h with }

theorem Ppu.Inv.writeScroll (v : Byte) : Ppu.Inv (ppuWriteScroll v u) := by
  unfold ppuWriteScroll
  split <;> exact { h with }

theorem Ppu.Inv.setFrame {f : List (Nat × Rgb)} (hf : cellsWf 0 61440 f = true) : Ppu.Inv { u with frame := f } :=
  ⟨h.oam, h.vram, h.palette, hf, h.dot, h.scanline, h.v, h.status⟩

omit h in
theorem renderFrame_wf (c : Cartridge) (u : Ppu) : cellsWf 0 61440 (renderFrame c u) = true := by
  unfold renderFrame
  exact cellsWf_range _ _

theorem Ppu.Inv.render (c : Cartridge) : Ppu.Inv (render c u) := by
  unfold Machine.render
  exact Ppu.Inv.setFrame h (renderFrame_wf c u)

omit h in
theorem status_or_low {p k : Byte} (hp : p &&& 0x3F = 0) (hk : k &&& 0x3F = 0) : (p ||| k) &&& 0x3F = 0 := by
  have hd : (p ||| k) &&& 0x3F = (p &&& 0x3F) ||| (k &&& 0x3F) := by
    apply BitVec.eq_of_getLsbD_eq
    intro i hi
    simp only [BitVec.getLsbD_and, BitVec.getLsbD_or, Bool.and_or_distrib_right]
  rw [hd, hp, hk]; rfl

omit h in
theorem lineDone_parts (u : Ppu) :
    lineDone u = { u with status := (lineDone u).status, scanline := (lineDone u).scanline, nmiPending := (lineDone u).nmiPending } := by
  unfold lineDone latchSprite0 vblankEnter frameEnd
  dsimp only
  split <;> split <;> split <;> rfl

omit h in
theorem lineDone_scanline (u : Ppu) : (lineDone u).scanline = if u.scanline + 1 ≥ 262 then 0 else u.scanline + 1 := by
  unfold lineDone latchSprite0 vblankEnter frameEnd
  dsimp only
  split <;> dsimp only <;> split <;> dsimp only <;> split <;> rfl

theorem lineDone_status_low : (lineDone u).status &&& 0x3F = 0 := by
  have hs := h.status
  have h4 := status_or_low hs (k := 0x40) (by decide)
  have h8 := status_or_low hs (k := 0x80) (by decide)
  have h48 := status_or_low h4 (k := 0x80) (by decide)
  have hf : ∀ k : Byte, k &&& 0x3F = 0 → (k &&& 0x3F) &&& 0x3F = 0 := fun k hk => by rw [hk]; rfl
  unfold lineDone latchSprite0 vblankEnter frameEnd
  dsimp only
  split <;> dsimp only <;> split <;> dsimp only <;> split <;> first | assumption | (apply hf; assumption)

theorem Ppu.Inv.lineDone : Ppu.Inv (Machine.lineDone u) := by
  have hs : (Machine.lineDone u).scanline < 262 := by
    have := h.scanline
    rw [lineDone_scanline]
    split <;> omega
  rw [lineDone_parts]
  exact { h with status := lineDone_status_low h, scanline := hs }

theorem Ppu.Inv.advance (n : Nat) : Ppu.Inv (ppuAdvance n u) := by
  unfold ppuAdvance
  split
  · exact Ppu.Inv.lineDone (u := { u with dot := (u.dot + n) % 341 }) { h with dot := Nat.mod_lt _ (by decide) }
  · next hd => exact { h with dot := Nat.lt_of_not_le hd }

end

/-! ### The bus, the stack and time -/

section
variable {s t : State} (h : State.Inv s)
include h

theorem State.Inv.setPpu {u : Ppu} (hu : Ppu.Inv u) : State.Inv (s.setPpu u) := by
  exact { h with ppu := hu }

theorem State.Inv.setP {p : Byte} (hp : p &&& 0x30 = 0x20) : State.Inv (s.setP p) := by
  exact { h with breakBits := hp }

theorem State.Inv.ramStore {i : Nat} (v : Byte) (hi : i < 2048) : State.Inv (ramStore i v s) := by
  exact { h with ram := Memory.wf_write v h.ram hi }

theorem portRead_inv {pc0 a : Word} {v : Byte} (hr : portRead pc0 a s = .ok v t) : State.Inv t := by
  have hu : Ppu.Inv s.ppu := h.ppu
  unfold portRead at hr
  split at hr
  · cases hr; exact h.setPpu (Ppu.Inv.afterStatusRead hu)
  · cases hr; exact h
  · cases hr; exact h.setPpu (Ppu.Inv.afterDataRead hu _ _)
  all_goals cases hr

omit h in
theorem padAfterRead_index {j : Pad} (hj : j.index ≤ 8) : (padAfterRead j).index ≤ 8 := by
  unfold padAfterRead
  split
  · exact hj
  · next hn => simp only [not_or, not_le, ge_iff_le] at hn; simp only; omega

omit h in
theorem padStrobe_index {j : Pad} (v : Byte) (hj : j.index ≤ 8) : (padStrobe v j).index ≤ 8 := by
  unfold padStrobe
  dsimp only
  split
  · exact Nat.zero_le _
  · exact hj

theorem ioRead_inv {pc0 a : Word} {v : Byte} (hr : ioRead pc0 a s = .ok v t) : State.Inv t := by
  unfold ioRead at hr
  split at hr
  · cases hr
  · cases hr; exact { h with pad1 := padAfterRead_index h.pad1 }
  · cases hr; exact { h with pad2 := padAfterRead_index h.pad2 }
  · cases hr; exact { h with }

/-- A bus read keeps the invariant. -/
theorem busRead_inv {pc0 a : Word} {v : Byte} (hr : busRead pc0 a s = .ok v t) : State.Inv t := by
  unfold busRead at hr
  split at hr
  · cases hr; exact h
  · exact portRead_inv h hr
  · exact ioRead_inv h hr
  · cases hr
  · cases hr; exact h

omit h in
theorem dmaCopy_inv {pc0 : Word} {page : Byte} {n : Nat} {s t : State} {u : Unit} (h : State.Inv s)
    (hr : dmaCopy pc0 page n s = .ok u t) : State.Inv t := by
  induction n generalizing s with
  | zero => cases hr; exact h
  | succ k ih =>
    simp only [dmaCopy] at hr
    split at hr
    · cases hr
    · next b s1 h1 =>
      have hi := busRead_inv h h1
      exact ih (hi.setPpu (Ppu.Inv.writeOamData hi.ppu b)) hr

/-- A bus write keeps the invariant. -/
theorem busWrite_inv {pc0 a : Word} {v : Byte} {u : Unit} (hr : busWrite pc0 a v s = .ok u t) : State.Inv t := by
  have hu : Ppu.Inv s.ppu := h.ppu
  unfold busWrite at hr
  split at hr
  · cases hr; exact h.ramStore v (Nat.mod_lt _ (by decide))
  · unfold portWrite at hr
    split at hr
    · cases hr; exact h.setPpu (Ppu.Inv.writeControl hu v)
    · cases hr; exact h.setPpu (Ppu.Inv.writeMask hu v)
    · cases hr
    · cases hr; exact h.setPpu (Ppu.Inv.writeOamAddr hu v)
    · cases hr; exact h.setPpu (Ppu.Inv.writeOamData hu v)
    · cases hr; exact h.setPpu (Ppu.Inv.writeScroll hu v)
    · cases hr; exact h.setPpu (Ppu.Inv.writeAddress hu v)
    · split at hr
      · cases hr
      · cases hr; exact h.setPpu (Ppu.Inv.writeData hu _ v)
  · unfold ioWrite at hr
    split at hr
    · exact dmaCopy_inv h hr
    · cases hr
      exact { h with pad1 := padStrobe_index v h.pad1, pad2 := padStrobe_index v h.pad2 }
    · cases hr; exact h
    · cases hr; exact h
  · cases hr
  · cases hr

/-- `Tick` keeps the invariant. -/
theorem tick_inv (n : Nat) : State.Inv (tick n s) := by
  have ha := Ppu.Inv.advance h.ppu (3 * n)
  unfold tick
  split
  · exact { h with ppu := Ppu.Inv.render ha _ }
  · exact { h with ppu := ha }

theorem push_inv (v : Byte) : State.Inv (push v s) := by
  have := s.sp.isLt
  exact { h with ram := Memory.wf_write v h.ram (show stackIndex s.sp < 2048 by unfold stackIndex; omega) }

theorem trapEntry_inv (ret : Word) (st : Byte) : State.Inv (trapEntry ret st s) := by
  have h3 : State.Inv (push st (push16 ret s)) := push_inv (push_inv (push_inv h _) _) _
  refine State.Inv.setP h3 ?_
  have hp : s.p &&& 0x30 = 0x20 := h.breakBits
  show setFlag .i true s.p &&& 0x30 = 0x20
  rw [← hp, breakBits_eq]
  exact ⟨getFlag_setFlag_ne (by decide) _ _, getFlag_setFlag_ne (by decide) _ _⟩

/-- The NMI poll keeps the invariant. -/
theorem pollNmi_inv : State.Inv (pollNmi s) := by
  unfold pollNmi
  split
  · have h1 : State.Inv (s.setPpu { s.ppu with nmiPending := false }) := h.setPpu { h.ppu with }
    exact { tick_inv (trapEntry_inv h1 s.pc (nmiStatus s.p)) 2 with }
  · exact h

end

end Sys2Proof.Machine
end

