-- ==== Sys2Proof/Laws/PerInstr.lean ====
section
/-! SUPPORT. One statement about every instruction as syntax: its opcode byte alone fixes how many operand bytes its encoding has
(30_encoding.md R85, R86), proved constructor by constructor. -/

namespace Sys2Proof.Laws

/-- The encoding is the opcode byte and exactly as many operand bytes as the opcode byte's shape takes. -/
def EncodedLength.Statement (i : Instr) : Prop :=
  ∃ opc ops, encode i = opc :: ops ∧ (shapeOf opc).operandLength = ops.length ∧ (encode i).length ≤ 3

theorem EncodedLength.brk : EncodedLength.Statement (.brk) := ⟨_, _, rfl, rfl, of_decide_eq_true rfl⟩
theorem EncodedLength.oraIzx (b1 : Byte) : EncodedLength.Statement (.oraIzx b1) := ⟨_, _, rfl, rfl, of_decide_eq_true rfl⟩
theorem EncodedLength.illegal02 : EncodedLength.Statement (.illegal02) := ⟨_, _, rfl, rfl, of_decide_eq_true rfl⟩
theorem EncodedLength.sloIzx (b1 : Byte) : EncodedLength.Statement (.sloIzx b1) := ⟨_, _, rfl, rfl, of_decide_eq_true rfl⟩
theorem EncodedLength.nop04 (b1 : Byte) : EncodedLength.Statement (.nop04 b1) := ⟨_, _, rfl, rfl, of_decide_eq_true rfl⟩
theorem EncodedLength.oraZp (b1 : Byte) : EncodedLength.Statement (.oraZp b1) := ⟨_, _, rfl, rfl, of_decide_eq_true rfl⟩
theorem EncodedLength.aslZp (b1 : Byte) : EncodedLength.Statement (.aslZp b1) := ⟨_, _, rfl, rfl, of_decide_eq_true rfl⟩
theorem EncodedLength.sloZp (b1 : Byte) : EncodedLength.Statement (.sloZp b1) := ⟨_, _, rfl, rfl, of_decide_eq_true rfl⟩
theorem EncodedLength.php : EncodedLength.Statement (.php) := ⟨_, _, rfl, rfl, of_decide_eq_true rfl⟩
theorem EncodedLength.oraImm (b1 : Byte) : EncodedLength.Statement (.oraImm b1) := ⟨_, _, rfl, rfl, of_decide_eq_true rfl⟩
theorem EncodedLength.aslAcc : EncodedLength.Statement (.aslAcc) := ⟨_, _, rfl, rfl, of_decide_eq_true rfl⟩
theorem EncodedLength.illegal0B : EncodedLength.Statement (.illegal0B) := ⟨_, _, rfl, rfl, of_decide_eq_true rfl⟩
theorem EncodedLength.nop0C (addr : Word) : EncodedLength.Statement (.nop0C addr) := ⟨_, _, rfl, rfl, of_decide_eq_true rfl⟩
theorem EncodedLength.oraAbs (addr : Word) : EncodedLength.Statement (.oraAbs addr) := ⟨_, _, rfl, rfl, of_decide_eq_true rfl⟩
theorem EncodedLength.aslAbs (addr : Word) : EncodedLength.Statement (.aslAbs addr) := ⟨_, _, rfl, rfl, of_decide_eq_true rfl⟩
theorem EncodedLength.sloAbs (addr : Word) : EncodedLength.Statement (.sloAbs addr) := ⟨_, _, rfl, rfl, of_decide_eq_true rfl⟩
theorem EncodedLength.bpl (b1 : Byte) : EncodedLength.Statement (.bpl b1) := ⟨_, _, rfl, rfl, of_decide_eq_true rfl⟩
theorem EncodedLength.oraIzy (b1 : Byte) : EncodedLength.Statement (.oraIzy b1) := ⟨_, _, rfl, rfl, of_decide_eq_true rfl⟩
theorem EncodedLength.illegal12 : EncodedLength.Statement (.illegal12) := ⟨_, _, rfl, rfl, of_decide_eq_true rfl⟩
theorem EncodedLength.sloIzy (b1 : Byte) : EncodedLength.Statement (.sloIzy b1) := ⟨_, _, rfl, rfl, of_decide_eq_true rfl⟩
theorem EncodedLength.nop14 (b1 : Byte) : EncodedLength.Statement (.nop14 b1) := ⟨_, _, rfl, rfl, of_decide_eq_true rfl⟩
theorem EncodedLength.oraZpx (b1 : Byte) : EncodedLength.Statement (.oraZpx b1) := ⟨_, _, rfl, rfl, of_decide_eq_true rfl⟩
theorem EncodedLength.aslZpx (b1 : Byte) : EncodedLength.Statement (.aslZpx b1) := ⟨_, _, rfl, rfl, of_decide_eq_true rfl⟩
theorem EncodedLength.sloZpx (b1 : Byte) : EncodedLength.Statement (.sloZpx b1) := ⟨_, _, rfl, rfl, of_decide_eq_true rfl⟩
theorem EncodedLength.clc : EncodedLength.Statement (.clc) := ⟨_, _, rfl, rfl, of_decide_eq_true rfl⟩
theorem EncodedLength.oraAby (addr : Word) : EncodedLength.Statement (.oraAby addr) := ⟨_, _, rfl, rfl, of_decide_eq_true rfl⟩
theorem EncodedLength.nop1A : EncodedLength.Statement (.nop1A) := ⟨_, _, rfl, rfl, of_decide_eq_true rfl⟩
theorem EncodedLength.sloAby (addr : Word) : EncodedLength.Statement (.sloAby addr) := ⟨_, _, rfl, rfl, of_decide_eq_true rfl⟩
theorem EncodedLength.nop1C (addr : Word) : EncodedLength.Statement (.nop1C addr) := ⟨_, _, rfl, rfl, of_decide_eq_true rfl⟩
theorem EncodedLength.oraAbx (addr : Word) : EncodedLength.Statement (.oraAbx addr) := ⟨_, _, rfl, rfl, of_decide_eq_true rfl⟩
theorem EncodedLength.aslAbx (addr : Word) : EncodedLength.Statement (.aslAbx addr) := ⟨_, _, rfl, rfl, of_decide_eq_true rfl⟩
theorem EncodedLength.sloAbx (addr : Word) : EncodedLength.Statement (.sloAbx addr) := ⟨_, _, rfl, rfl, of_decide_eq_true rfl⟩
theorem EncodedLength.jsr (addr : Word) : EncodedLength.Statement (.jsr addr) := ⟨_, _, rfl, rfl, of_decide_eq_true rfl⟩
theorem EncodedLength.andIzx (b1 : Byte) : EncodedLength.Statement (.andIzx b1) := ⟨_, _, rfl, rfl, of_decide_eq_true rfl⟩
theorem EncodedLength.illegal22 : EncodedLength.Statement (.illegal22) := ⟨_, _, rfl, rfl, of_decide_eq_true rfl⟩
theorem EncodedLength.rlaIzx (b1 : Byte) : EncodedLength.Statement (.rlaIzx b1) := ⟨_, _, rfl, rfl, of_decide_eq_true rfl⟩
theorem EncodedLength.bitZp (b1 : Byte) : EncodedLength.Statement (.bitZp b1) := ⟨_, _, rfl, rfl, of_decide_eq_true rfl⟩
theorem EncodedLength.andZp (b1 : Byte) : EncodedLength.Statement (.andZp b1) := ⟨_, _, rfl, rfl, of_decide_eq_true rfl⟩
theorem EncodedLength.rolZp (b1 : Byte) : EncodedLength.Statement (.rolZp b1) := ⟨_, _, rfl, rfl, of_decide_eq_true rfl⟩
theorem EncodedLength.rlaZp (b1 : Byte) : EncodedLength.Statement (.rlaZp b1) := ⟨_, _, rfl, rfl, of_decide_eq_true rfl⟩
theorem EncodedLength.plp : EncodedLength.Statement (.plp) := ⟨_, _, rfl, rfl, of_decide_eq_true rfl⟩
theorem EncodedLength.andImm (b1 : Byte) : EncodedLength.Statement (.andImm b1) := ⟨_, _, rfl, rfl, of_decide_eq_true rfl⟩
theorem EncodedLength.rolAcc : EncodedLength.Statement (.rolAcc) := ⟨_, _, rfl, rfl, of_decide_eq_true rfl⟩
theorem EncodedLength.illegal2B : EncodedLength.Statement (.illegal2B) := ⟨_, _, rfl, rfl, of_decide_eq_true rfl⟩
theorem EncodedLength.bitAbs (addr : Word) : EncodedLength.Statement (.bitAbs addr) := ⟨_, _, rfl, rfl, of_decide_eq_true rfl⟩
theorem EncodedLength.andAbs (addr : Word) : EncodedLength.Statement (.andAbs addr) := ⟨_, _, rfl, rfl, of_decide_eq_true rfl⟩
theorem EncodedLength.rolAbs (addr : Word) : EncodedLength.Statement (.rolAbs addr) := ⟨_, _, rfl, rfl, of_decide_eq_true rfl⟩
theorem EncodedLength.rlaAbs (addr : Word) : EncodedLength.Statement (.rlaAbs addr) := ⟨_, _, rfl, rfl, of_decide_eq_true rfl⟩
theorem EncodedLength.bmi (b1 : Byte) : EncodedLength.Statement (.bmi b1) := ⟨_, _, rfl, rfl, of_decide_eq_true rfl⟩
theorem EncodedLength.andIzy (b1 : Byte) : EncodedLength.Statement (.andIzy b1) := ⟨_, _, rfl, rfl, of_decide_eq_true rfl⟩
theorem EncodedLength.illegal32 : EncodedLength.Statement (.illegal32) := ⟨_, _, rfl, rfl, of_decide_eq_true rfl⟩
theorem EncodedLength.rlaIzy (b1 : Byte) : EncodedLength.Statement (.rlaIzy b1) := ⟨_, _, rfl, rfl, of_decide_eq_true rfl⟩
theorem EncodedLength.nop34 (b1 : Byte) : EncodedLength.Statement (.nop34 b1) := ⟨_, _, rfl, rfl, of_decide_eq_true rfl⟩
theorem EncodedLength.andZpx (b1 : Byte) : EncodedLength.Statement (.andZpx b1) := ⟨_, _, rfl, rfl, of_decide_eq_true rfl⟩
theorem EncodedLength.rolZpx (b1 : Byte) : EncodedLength.Statement (.rolZpx b1) := ⟨_, _, rfl, rfl, of_decide_eq_true rfl⟩
theorem EncodedLength.rlaZpx (b1 : Byte) : EncodedLength.Statement (.rlaZpx b1) := ⟨_, _, rfl, rfl, of_decide_eq_true rfl⟩
theorem EncodedLength.sec : EncodedLength.Statement (.sec) := ⟨_, _, rfl, rfl, of_decide_eq_true rfl⟩
theorem EncodedLength.andAby (addr : Word) : EncodedLength.Statement (.andAby addr) := ⟨_, _, rfl, rfl, of_decide_eq_true rfl⟩
theorem EncodedLength.nop3A : EncodedLength.Statement (.nop3A) := ⟨_, _, rfl, rfl, of_decide_eq_true rfl⟩
theorem EncodedLength.rlaAby (addr : Word) : EncodedLength.Statement (.rlaAby addr) := ⟨_, _, rfl, rfl, of_decide_eq_true rfl⟩
theorem EncodedLength.nop3C (addr : Word) : EncodedLength.Statement (.nop3C addr) := ⟨_, _, rfl, rfl, of_decide_eq_true rfl⟩
theorem EncodedLength.andAbx (addr : Word) : EncodedLength.Statement (.andAbx addr) := ⟨_, _, rfl, rfl, of_decide_eq_true rfl⟩
theorem EncodedLength.rolAbx (addr : Word) : EncodedLength.Statement (.rolAbx addr) := ⟨_, _, rfl, rfl, of_decide_eq_true rfl⟩
theorem EncodedLength.rlaAbx (addr : Word) : EncodedLength.Statement (.rlaAbx addr) := ⟨_, _, rfl, rfl, of_decide_eq_true rfl⟩
theorem EncodedLength.rti : EncodedLength.Statement (.rti) := ⟨_, _, rfl, rfl, of_decide_eq_true rfl⟩
theorem EncodedLength.eorIzx (b1 : Byte) : EncodedLength.Statement (.eorIzx b1) := ⟨_, _, rfl, rfl, of_decide_eq_true rfl⟩
theorem EncodedLength.illegal42 : EncodedLength.Statement (.illegal42) := ⟨_, _, rfl, rfl, of_decide_eq_true rfl⟩
theorem EncodedLength.sreIzx (b1 : Byte) : EncodedLength.Statement (.sreIzx b1) := ⟨_, _, rfl, rfl, of_decide_eq_true rfl⟩
theorem EncodedLength.nop44 (b1 : Byte) : EncodedLength.Statement (.nop44 b1) := ⟨_, _, rfl, rfl, of_decide_eq_true rfl⟩
theorem EncodedLength.eorZp (b1 : Byte) : EncodedLength.Statement (.eorZp b1) := ⟨_, _, rfl, rfl, of_decide_eq_true rfl⟩
theorem EncodedLength.lsrZp (b1 : Byte) : EncodedLength.Statement (.lsrZp b1) := ⟨_, _, rfl, rfl, of_decide_eq_true rfl⟩
theorem EncodedLength.sreZp (b1 : Byte) : EncodedLength.Statement (.sreZp b1) := ⟨_, _, rfl, rfl, of_decide_eq_true rfl⟩
theorem EncodedLength.pha : EncodedLength.Statement (.pha) := ⟨_, _, rfl, rfl, of_decide_eq_true rfl⟩
theorem EncodedLength.eorImm (b1 : Byte) : EncodedLength.Statement (.eorImm b1) := ⟨_, _, rfl, rfl, of_decide_eq_true rfl⟩
theorem EncodedLength.lsrAcc : EncodedLength.Statement (.lsrAcc) := ⟨_, _, rfl, rfl, of_decide_eq_true rfl⟩
theorem EncodedLength.illegal4B : EncodedLength.Statement (.illegal4B) := ⟨_, _, rfl, rfl, of_decide_eq_true rfl⟩
theorem EncodedLength.jmpAbs (addr : Word) : EncodedLength.Statement (.jmpAbs addr) := ⟨_, _, rfl, rfl, of_decide_eq_true rfl⟩
theorem EncodedLength.eorAbs (addr : Word) : EncodedLength.Statement (.eorAbs addr) := ⟨_, _, rfl, rfl, of_decide_eq_true rfl⟩
theorem EncodedLength.lsrAbs (addr : Word) : EncodedLength.Statement (.lsrAbs addr) := ⟨_, _, rfl, rfl, of_decide_eq_true rfl⟩
theorem EncodedLength.sreAbs (addr : Word) : EncodedLength.Statement (.sreAbs addr) := ⟨_, _, rfl, rfl, of_decide_eq_true rfl⟩
theorem EncodedLength.bvc (b1 : Byte) : EncodedLength.Statement (.bvc b1) := ⟨_, _, rfl, rfl, of_decide_eq_true rfl⟩
theorem EncodedLength.eorIzy (b1 : Byte) : EncodedLength.Statement (.eorIzy b1) := ⟨_, _, rfl, rfl, of_decide_eq_true rfl⟩
theorem EncodedLength.illegal52 : EncodedLength.Statement (.illegal52) := ⟨_, _, rfl, rfl, of_decide_eq_true rfl⟩
theorem EncodedLength.sreIzy (b1 : Byte) : EncodedLength.Statement (.sreIzy b1) := ⟨_, _, rfl, rfl, of_decide_eq_true rfl⟩
theorem EncodedLength.nop54 (b1 : Byte) : EncodedLength.Statement (.nop54 b1) := ⟨_, _, rfl, rfl, of_decide_eq_true rfl⟩
theorem EncodedLength.eorZpx (b1 : Byte) : EncodedLength.Statement (.eorZpx b1) := ⟨_, _, rfl, rfl, of_decide_eq_true rfl⟩
theorem EncodedLength.lsrZpx (b1 : Byte) : EncodedLength.Statement (.lsrZpx b1) := ⟨_, _, rfl, rfl, of_decide_eq_true rfl⟩
theorem EncodedLength.sreZpx (b1 : Byte) : EncodedLength.Statement (.sreZpx b1) := ⟨_, _, rfl, rfl, of_decide_eq_true rfl⟩
theorem EncodedLength.cli : EncodedLength.Statement (.cli) := ⟨_, _, rfl, rfl, of_decide_eq_true rfl⟩
theorem EncodedLength.eorAby (addr : Word) : EncodedLength.Statement (.eorAby addr) := ⟨_, _, rfl, rfl, of_decide_eq_true rfl⟩
theorem EncodedLength.nop5A : EncodedLength.Statement (.nop5A) := ⟨_, _, rfl, rfl, of_decide_eq_true rfl⟩
theorem EncodedLength.sreAby (addr : Word) : EncodedLength.Statement (.sreAby addr) := ⟨_, _, rfl, rfl, of_decide_eq_true rfl⟩
theorem EncodedLength.nop5C (addr : Word) : EncodedLength.Statement (.nop5C addr) := ⟨_, _, rfl, rfl, of_decide_eq_true rfl⟩
theorem EncodedLength.eorAbx (addr : Word) : EncodedLength.Statement (.eorAbx addr) := ⟨_, _, rfl, rfl, of_decide_eq_true rfl⟩
theorem EncodedLength.lsrAbx (addr : Word) : EncodedLength.Statement (.lsrAbx addr) := ⟨_, _, rfl, rfl, of_decide_eq_true rfl⟩
theorem EncodedLength.sreAbx (addr : Word) : EncodedLength.Statement (.sreAbx addr) := ⟨_, _, rfl, rfl, of_decide_eq_true rfl⟩
theorem EncodedLength.rts : EncodedLength.Statement (.rts) := ⟨_, _, rfl, rfl, of_decide_eq_true rfl⟩
theorem EncodedLength.adcIzx (b1 : Byte) : EncodedLength.Statement (.adcIzx b1) := ⟨_, _, rfl, rfl, of_decide_eq_true rfl⟩
theorem EncodedLength.illegal62 : EncodedLength.Statement (.illegal62) := ⟨_, _, rfl, rfl, of_decide_eq_true rfl⟩
theorem EncodedLength.rraIzx (b1 : Byte) : EncodedLength.Statement (.rraIzx b1) := ⟨_, _, rfl, rfl, of_decide_eq_true rfl⟩
theorem EncodedLength.nop64 (b1 : Byte) : EncodedLength.Statement (.nop64 b1) := ⟨_, _, rfl, rfl, of_decide_eq_true rfl⟩
theorem EncodedLength.adcZp (b1 : Byte) : EncodedLength.Statement (.adcZp b1) := ⟨_, _, rfl, rfl, of_decide_eq_true rfl⟩
theorem EncodedLength.rorZp (b1 : Byte) : EncodedLength.Statement (.rorZp b1) := ⟨_, _, rfl, rfl, of_decide_eq_true rfl⟩
theorem EncodedLength.rraZp (b1 : Byte) : EncodedLength.Statement (.rraZp b1) := ⟨_, _, rfl, rfl, of_decide_eq_true rfl⟩
theorem EncodedLength.pla : EncodedLength.Statement (.pla) := ⟨_, _, rfl, rfl, of_decide_eq_true rfl⟩
theorem EncodedLength.adcImm (b1 : Byte) : EncodedLength.Statement (.adcImm b1) := ⟨_, _, rfl, rfl, of_decide_eq_true rfl⟩
theorem EncodedLength.rorAcc : EncodedLength.Statement (.rorAcc) := ⟨_, _, rfl, rfl, of_decide_eq_true rfl⟩
theorem EncodedLength.illegal6B : EncodedLength.Statement (.illegal6B) := ⟨_, _, rfl, rfl, of_decide_eq_true rfl⟩
theorem EncodedLength.jmpInd (addr : Word) : EncodedLength.Statement (.jmpInd addr) := ⟨_, _, rfl, rfl, of_decide_eq_true rfl⟩
theorem EncodedLength.adcAbs (addr : Word) : EncodedLength.Statement (.adcAbs addr) := ⟨_, _, rfl, rfl, of_decide_eq_true rfl⟩
theorem EncodedLength.rorAbs (addr : Word) : EncodedLength.Statement (.rorAbs addr) := ⟨_, _, rfl, rfl, of_decide_eq_true rfl⟩
theorem EncodedLength.rraAbs (addr : Word) : EncodedLength.Statement (.rraAbs addr) := ⟨_, _, rfl, rfl, of_decide_eq_true rfl⟩
theorem EncodedLength.bvs (b1 : Byte) : EncodedLength.Statement (.bvs b1) := ⟨_, _, rfl, rfl, of_decide_eq_true rfl⟩
theorem EncodedLength.adcIzy (b1 : Byte) : EncodedLength.Statement (.adcIzy b1) := ⟨_, _, rfl, rfl, of_decide_eq_true rfl⟩
theorem EncodedLength.illegal72 : EncodedLength.Statement (.illegal72) := ⟨_, _, rfl, rfl, of_decide_eq_true rfl⟩
theorem EncodedLength.rraIzy (b1 : Byte) : EncodedLength.Statement (.rraIzy b1) := ⟨_, _, rfl, rfl, of_decide_eq_true rfl⟩
theorem EncodedLength.nop74 (b1 : Byte) : EncodedLength.Statement (.nop74 b1) := ⟨_, _, rfl, rfl, of_decide_eq_true rfl⟩
theorem EncodedLength.adcZpx (b1 : Byte) : EncodedLength.Statement (.adcZpx b1) := ⟨_, _, rfl, rfl, of_decide_eq_true rfl⟩
theorem EncodedLength.rorZpx (b1 : Byte) : EncodedLength.Statement (.rorZpx b1) := ⟨_, _, rfl, rfl, of_decide_eq_true rfl⟩
theorem EncodedLength.rraZpx (b1 : Byte) : EncodedLength.Statement (.rraZpx b1) := ⟨_, _, rfl, rfl, of_decide_eq_true rfl⟩
theorem EncodedLength.sei : EncodedLength.Statement (.sei) := ⟨_, _, rfl, rfl, of_decide_eq_true rfl⟩
theorem EncodedLength.adcAby (addr : Word) : EncodedLength.Statement (.adcAby addr) := ⟨_, _, rfl, rfl, of_decide_eq_true rfl⟩
theorem EncodedLength.nop7A : EncodedLength.Statement (.nop7A) := ⟨_, _, rfl, rfl, of_decide_eq_true rfl⟩
theorem EncodedLength.rraAby (addr : Word) : EncodedLength.Statement (.rraAby addr) := ⟨_, _, rfl, rfl, of_decide_eq_true rfl⟩
theorem EncodedLength.nop7C (addr : Word) : EncodedLength.Statement (.nop7C addr) := ⟨_, _, rfl, rfl, of_decide_eq_true rfl⟩
theorem EncodedLength.adcAbx (addr : Word) : EncodedLength.Statement (.adcAbx addr) := ⟨_, _, rfl, rfl, of_decide_eq_true rfl⟩
theorem EncodedLength.rorAbx (addr : Word) : EncodedLength.Statement (.rorAbx addr) := ⟨_, _, rfl, rfl, of_decide_eq_true rfl⟩
theorem EncodedLength.rraAbx (addr : Word) : EncodedLength.Statement (.rraAbx addr) := ⟨_, _, rfl, rfl, of_decide_eq_true rfl⟩
theorem EncodedLength.nop80 (b1 : Byte) : EncodedLength.Statement (.nop80 b1) := ⟨_, _, rfl, rfl, of_decide_eq_true rfl⟩
theorem EncodedLength.staIzx (b1 : Byte) : EncodedLength.Statement (.staIzx b1) := ⟨_, _, rfl, rfl, of_decide_eq_true rfl⟩
theorem EncodedLength.nop82 (b1 : Byte) : EncodedLength.Statement (.nop82 b1) := ⟨_, _, rfl, rfl, of_decide_eq_true rfl⟩
theorem EncodedLength.saxIzx (b1 : Byte) : EncodedLength.Statement (.saxIzx b1) := ⟨_, _, rfl, rfl, of_decide_eq_true rfl⟩
theorem EncodedLength.styZp (b1 : Byte) : EncodedLength.Statement (.styZp b1) := ⟨_, _, rfl, rfl, of_decide_eq_true rfl⟩
theorem EncodedLength.staZp (b1 : Byte) : EncodedLength.Statement (.staZp b1) := ⟨_, _, rfl, rfl, of_decide_eq_true rfl⟩
theorem EncodedLength.stxZp (b1 : Byte) : EncodedLength.Statement (.stxZp b1) := ⟨_, _, rfl, rfl, of_decide_eq_true rfl⟩
theorem EncodedLength.saxZp (b1 : Byte) : EncodedLength.Statement (.saxZp b1) := ⟨_, _, rfl, rfl, of_decide_eq_true rfl⟩
theorem EncodedLength.dey : EncodedLength.Statement (.dey) := ⟨_, _, rfl, rfl, of_decide_eq_true rfl⟩
theorem EncodedLength.nop89 (b1 : Byte) : EncodedLength.Statement (.nop89 b1) := ⟨_, _, rfl, rfl, of_decide_eq_true rfl⟩
theorem EncodedLength.txa : EncodedLength.Statement (.txa) := ⟨_, _, rfl, rfl, of_decide_eq_true rfl⟩
theorem EncodedLength.illegal8B : EncodedLength.Statement (.illegal8B) := ⟨_, _, rfl, rfl, of_decide_eq_true rfl⟩
theorem EncodedLength.styAbs (addr : Word) : EncodedLength.Statement (.styAbs addr) := ⟨_, _, rfl, rfl, of_decide_eq_true rfl⟩
theorem EncodedLength.staAbs (addr : Word) : EncodedLength.Statement (.staAbs addr) := ⟨_, _, rfl, rfl, of_decide_eq_true rfl⟩
theorem EncodedLength.stxAbs (addr : Word) : EncodedLength.Statement (.stxAbs addr) := ⟨_, _, rfl, rfl, of_decide_eq_true rfl⟩
theorem EncodedLength.saxAbs (addr : Word) : EncodedLength.Statement (.saxAbs addr) := ⟨_, _, rfl, rfl, of_decide_eq_true rfl⟩
theorem EncodedLength.bcc (b1 : Byte) : EncodedLength.Statement (.bcc b1) := ⟨_, _, rfl, rfl, of_decide_eq_true rfl⟩
theorem EncodedLength.staIzy (b1 : Byte) : EncodedLength.Statement (.staIzy b1) := ⟨_, _, rfl, rfl, of_decide_eq_true rfl⟩
theorem EncodedLength.illegal92 : EncodedLength.Statement (.illegal92) := ⟨_, _, rfl, rfl, of_decide_eq_true rfl⟩
theorem EncodedLength.illegal93 : EncodedLength.Statement (.illegal93) := ⟨_, _, rfl, rfl, of_decide_eq_true rfl⟩
theorem EncodedLength.styZpx (b1 : Byte) : EncodedLength.Statement (.styZpx b1) := ⟨_, _, rfl, rfl, of_decide_eq_true rfl⟩
theorem EncodedLength.staZpx (b1 : Byte) : EncodedLength.Statement (.staZpx b1) := ⟨_, _, rfl, rfl, of_decide_eq_true rfl⟩
theorem EncodedLength.stxZpy (b1 : Byte) : EncodedLength.Statement (.stxZpy b1) := ⟨_, _, rfl, rfl, of_decide_eq_true rfl⟩
theorem EncodedLength.saxZpy (b1 : Byte) : EncodedLength.Statement (.saxZpy b1) := ⟨_, _, rfl, rfl, of_decide_eq_true rfl⟩
theorem EncodedLength.tya : EncodedLength.Statement (.tya) := ⟨_, _, rfl, rfl, of_decide_eq_true rfl⟩
theorem EncodedLength.staAby (addr : Word) : EncodedLength.Statement (.staAby addr) := ⟨_, _, rfl, rfl, of_decide_eq_true rfl⟩
theorem EncodedLength.txs : EncodedLength.Statement (.txs) := ⟨_, _, rfl, rfl, of_decide_eq_true rfl⟩
theorem EncodedLength.illegal9B : EncodedLength.Statement (.illegal9B) := ⟨_, _, rfl, rfl, of_decide_eq_true rfl⟩
theorem EncodedLength.illegal9C : EncodedLength.Statement (.illegal9C) := ⟨_, _, rfl, rfl, of_decide_eq_true rfl⟩
theorem EncodedLength.staAbx (addr : Word) : EncodedLength.Statement (.staAbx addr) := ⟨_, _, rfl, rfl, of_decide_eq_true rfl⟩
theorem EncodedLength.illegal9E : EncodedLength.Statement (.illegal9E) := ⟨_, _, rfl, rfl, of_decide_eq_true rfl⟩
theorem EncodedLength.illegal9F : EncodedLength.Statement (.illegal9F) := ⟨_, _, rfl, rfl, of_decide_eq_true rfl⟩
theorem EncodedLength.ldyImm (b1 : Byte) : EncodedLength.Statement (.ldyImm b1) := ⟨_, _, rfl, rfl, of_decide_eq_true rfl⟩
theorem EncodedLength.ldaIzx (b1 : Byte) : EncodedLength.Statement (.ldaIzx b1) := ⟨_, _, rfl, rfl, of_decide_eq_true rfl⟩
theorem EncodedLength.ldxImm (b1 : Byte) : EncodedLength.Statement (.ldxImm b1) := ⟨_, _, rfl, rfl, of_decide_eq_true rfl⟩
theorem EncodedLength.laxIzx (b1 : Byte) : EncodedLength.Statement (.laxIzx b1) := ⟨_, _, rfl, rfl, of_decide_eq_true rfl⟩
theorem EncodedLength.ldyZp (b1 : Byte) : EncodedLength.Statement (.ldyZp b1) := ⟨_, _, rfl, rfl, of_decide_eq_true rfl⟩
theorem EncodedLength.ldaZp (b1 : Byte) : EncodedLength.Statement (.ldaZp b1) := ⟨_, _, rfl, rfl, of_decide_eq_true rfl⟩
theorem EncodedLength.ldxZp (b1 : Byte) : EncodedLength.Statement (.ldxZp b1) := ⟨_, _, rfl, rfl, of_decide_eq_true rfl⟩
theorem EncodedLength.laxZp (b1 : Byte) : EncodedLength.Statement (.laxZp b1) := ⟨_, _, rfl, rfl, of_decide_eq_true rfl⟩
theorem EncodedLength.tay : EncodedLength.Statement (.tay) := ⟨_, _, rfl, rfl, of_decide_eq_true rfl⟩
theorem EncodedLength.ldaImm (b1 : Byte) : EncodedLength.Statement (.ldaImm b1) := ⟨_, _, rfl, rfl, of_decide_eq_true rfl⟩
theorem EncodedLength.tax : EncodedLength.Statement (.tax) := ⟨_, _, rfl, rfl, of_decide_eq_true rfl⟩
theorem EncodedLength.illegalAB : EncodedLength.Statement (.illegalAB) := ⟨_, _, rfl, rfl, of_decide_eq_true rfl⟩
theorem EncodedLength.ldyAbs (addr : Word) : EncodedLength.Statement (.ldyAbs addr) := ⟨_, _, rfl, rfl, of_decide_eq_true rfl⟩
theorem EncodedLength.ldaAbs (addr : Word) : EncodedLength.Statement (.ldaAbs addr) := ⟨_, _, rfl, rfl, of_decide_eq_true rfl⟩
theorem EncodedLength.ldxAbs (addr : Word) : EncodedLength.Statement (.ldxAbs addr) := ⟨_, _, rfl, rfl, of_decide_eq_true rfl⟩
theorem EncodedLength.laxAbs (addr : Word) : EncodedLength.Statement (.laxAbs addr) := ⟨_, _, rfl, rfl, of_decide_eq_true rfl⟩
theorem EncodedLength.bcs (b1 : Byte) : EncodedLength.Statement (.bcs b1) := ⟨_, _, rfl, rfl, of_decide_eq_true rfl⟩
theorem EncodedLength.ldaIzy (b1 : Byte) : EncodedLength.Statement (.ldaIzy b1) := ⟨_, _, rfl, rfl, of_decide_eq_true rfl⟩
theorem EncodedLength.illegalB2 : EncodedLength.Statement (.illegalB2) := ⟨_, _, rfl, rfl, of_decide_eq_true rfl⟩
theorem EncodedLength.laxIzy (b1 : Byte) : EncodedLength.Statement (.laxIzy b1) := ⟨_, _, rfl, rfl, of_decide_eq_true rfl⟩
theorem EncodedLength.ldyZpx (b1 : Byte) : EncodedLength.Statement (.ldyZpx b1) := ⟨_, _, rfl, rfl, of_decide_eq_true rfl⟩
theorem EncodedLength.ldaZpx (b1 : Byte) : EncodedLength.Statement (.ldaZpx b1) := ⟨_, _, rfl, rfl, of_decide_eq_true rfl⟩
theorem EncodedLength.ldxZpy (b1 : Byte) : EncodedLength.Statement (.ldxZpy b1) := ⟨_, _, rfl, rfl, of_decide_eq_true rfl⟩
theorem EncodedLength.laxZpy (b1 : Byte) : EncodedLength.Statement (.laxZpy b1) := ⟨_, _, rfl, rfl, of_decide_eq_true rfl⟩
theorem EncodedLength.clv : EncodedLength.Statement (.clv) := ⟨_, _, rfl, rfl, of_decide_eq_true rfl⟩
theorem EncodedLength.ldaAby (addr : Word) : EncodedLength.Statement (.ldaAby addr) := ⟨_, _, rfl, rfl, of_decide_eq_true rfl⟩
theorem EncodedLength.tsx : EncodedLength.Statement (.tsx) := ⟨_, _, rfl, rfl, of_decide_eq_true rfl⟩
theorem EncodedLength.illegalBB : EncodedLength.Statement (.illegalBB) := ⟨_, _, rfl, rfl, of_decide_eq_true rfl⟩
theorem EncodedLength.ldyAbx (addr : Word) : EncodedLength.Statement (.ldyAbx addr) := ⟨_, _, rfl, rfl, of_decide_eq_true rfl⟩
theorem EncodedLength.ldaAbx (addr : Word) : EncodedLength.Statement (.ldaAbx addr) := ⟨_, _, rfl, rfl, of_decide_eq_true rfl⟩
theorem EncodedLength.ldxAby (addr : Word) : EncodedLength.Statement (.ldxAby addr) := ⟨_, _, rfl, rfl, of_decide_eq_true rfl⟩
theorem EncodedLength.laxAby (addr : Word) : EncodedLength.Statement (.laxAby addr) := ⟨_, _, rfl, rfl, of_decide_eq_true rfl⟩
theorem EncodedLength.cpyImm (b1 : Byte) : EncodedLength.Statement (.cpyImm b1) := ⟨_, _, rfl, rfl, of_decide_eq_true rfl⟩
theorem EncodedLength.cmpIzx (b1 : Byte) : EncodedLength.Statement (.cmpIzx b1) := ⟨_, _, rfl, rfl, of_decide_eq_true rfl⟩
theorem EncodedLength.nopC2 (b1 : Byte) : EncodedLength.Statement (.nopC2 b1) := ⟨_, _, rfl, rfl, of_decide_eq_true rfl⟩
theorem EncodedLength.dcpIzx (b1 : Byte) : EncodedLength.Statement (.dcpIzx b1) := ⟨_, _, rfl, rfl, of_decide_eq_true rfl⟩
theorem EncodedLength.cpyZp (b1 : Byte) : EncodedLength.Statement (.cpyZp b1) := ⟨_, _, rfl, rfl, of_decide_eq_true rfl⟩
theorem EncodedLength.cmpZp (b1 : Byte) : EncodedLength.Statement (.cmpZp b1) := ⟨_, _, rfl, rfl, of_decide_eq_true rfl⟩
theorem EncodedLength.decZp (b1 : Byte) : EncodedLength.Statement (.decZp b1) := ⟨_, _, rfl, rfl, of_decide_eq_true rfl⟩
theorem EncodedLength.dcpZp (b1 : Byte) : EncodedLength.Statement (.dcpZp b1) := ⟨_, _, rfl, rfl, of_decide_eq_true rfl⟩
theorem EncodedLength.iny : EncodedLength.Statement (.iny) := ⟨_, _, rfl, rfl, of_decide_eq_true rfl⟩
theorem EncodedLength.cmpImm (b1 : Byte) : EncodedLength.Statement (.cmpImm b1) := ⟨_, _, rfl, rfl, of_decide_eq_true rfl⟩
theorem EncodedLength.dex : EncodedLength.Statement (.dex) := ⟨_, _, rfl, rfl, of_decide_eq_true rfl⟩
theorem EncodedLength.illegalCB : EncodedLength.Statement (.illegalCB) := ⟨_, _, rfl, rfl, of_decide_eq_true rfl⟩
theorem EncodedLength.cpyAbs (addr : Word) : EncodedLength.Statement (.cpyAbs addr) := ⟨_, _, rfl, rfl, of_decide_eq_true rfl⟩
theorem EncodedLength.cmpAbs (addr : Word) : EncodedLength.Statement (.cmpAbs addr) := ⟨_, _, rfl, rfl, of_decide_eq_true rfl⟩
theorem EncodedLength.decAbs (addr : Word) : EncodedLength.Statement (.decAbs addr) := ⟨_, _, rfl, rfl, of_decide_eq_true rfl⟩
theorem EncodedLength.dcpAbs (addr : Word) : EncodedLength.Statement (.dcpAbs addr) := ⟨_, _, rfl, rfl, of_decide_eq_true rfl⟩
theorem EncodedLength.bne (b1 : Byte) : EncodedLength.Statement (.bne b1) := ⟨_, _, rfl, rfl, of_decide_eq_true rfl⟩
theorem EncodedLength.cmpIzy (b1 : Byte) : EncodedLength.Statement (.cmpIzy b1) := ⟨_, _, rfl, rfl, of_decide_eq_true rfl⟩
theorem EncodedLength.illegalD2 : EncodedLength.Statement (.illegalD2) := ⟨_, _, rfl, rfl, of_decide_eq_true rfl⟩
theorem EncodedLength.dcpIzy (b1 : Byte) : EncodedLength.Statement (.dcpIzy b1) := ⟨_, _, rfl, rfl, of_decide_eq_true rfl⟩
theorem EncodedLength.nopD4 (b1 : Byte) : EncodedLength.Statement (.nopD4 b1) := ⟨_, _, rfl, rfl, of_decide_eq_true rfl⟩
theorem EncodedLength.cmpZpx (b1 : Byte) : EncodedLength.Statement (.cmpZpx b1) := ⟨_, _, rfl, rfl, of_decide_eq_true rfl⟩
theorem EncodedLength.decZpx (b1 : Byte) : EncodedLength.Statement (.decZpx b1) := ⟨_, _, rfl, rfl, of_decide_eq_true rfl⟩
theorem EncodedLength.dcpZpx (b1 : Byte) : EncodedLength.Statement (.dcpZpx b1) := ⟨_, _, rfl, rfl, of_decide_eq_true rfl⟩
theorem EncodedLength.cld : EncodedLength.Statement (.cld) := ⟨_, _, rfl, rfl, of_decide_eq_true rfl⟩
theorem EncodedLength.cmpAby (addr : Word) : EncodedLength.Statement (.cmpAby addr) := ⟨_, _, rfl, rfl, of_decide_eq_true rfl⟩
theorem EncodedLength.nopDA : EncodedLength.Statement (.nopDA) := ⟨_, _, rfl, rfl, of_decide_eq_true rfl⟩
theorem EncodedLength.dcpAby (addr : Word) : EncodedLength.Statement (.dcpAby addr) := ⟨_, _, rfl, rfl, of_decide_eq_true rfl⟩
theorem EncodedLength.nopDC (addr : Word) : EncodedLength.Statement (.nopDC addr) := ⟨_, _, rfl, rfl, of_decide_eq_true rfl⟩
theorem EncodedLength.cmpAbx (addr : Word) : EncodedLength.Statement (.cmpAbx addr) := ⟨_, _, rfl, rfl, of_decide_eq_true rfl⟩
theorem EncodedLength.decAbx (addr : Word) : EncodedLength.Statement (.decAbx addr) := ⟨_, _, rfl, rfl, of_decide_eq_true rfl⟩
theorem EncodedLength.dcpAbx (addr : Word) : EncodedLength.Statement (.dcpAbx addr) := ⟨_, _, rfl, rfl, of_decide_eq_true rfl⟩
theorem EncodedLength.cpxImm (b1 : Byte) : EncodedLength.Statement (.cpxImm b1) := ⟨_, _, rfl, rfl, of_decide_eq_true rfl⟩
theorem EncodedLength.sbcIzx (b1 : Byte) : EncodedLength.Statement (.sbcIzx b1) := ⟨_, _, rfl, rfl, of_decide_eq_true rfl⟩
theorem EncodedLength.nopE2 (b1 : Byte) : EncodedLength.Statement (.nopE2 b1) := ⟨_, _, rfl, rfl, of_decide_eq_true rfl⟩
theorem EncodedLength.isbIzx (b1 : Byte) : EncodedLength.Statement (.isbIzx b1) := ⟨_, _, rfl, rfl, of_decide_eq_true rfl⟩
theorem EncodedLength.cpxZp (b1 : Byte) : EncodedLength.Statement (.cpxZp b1) := ⟨_, _, rfl, rfl, of_decide_eq_true rfl⟩
theorem EncodedLength.sbcZp (b1 : Byte) : EncodedLength.Statement (.sbcZp b1) := ⟨_, _, rfl, rfl, of_decide_eq_true rfl⟩
theorem EncodedLength.incZp (b1 : Byte) : EncodedLength.Statement (.incZp b1) := ⟨_, _, rfl, rfl, of_decide_eq_true rfl⟩
theorem EncodedLength.isbZp (b1 : Byte) : EncodedLength.Statement (.isbZp b1) := ⟨_, _, rfl, rfl, of_decide_eq_true rfl⟩
theorem EncodedLength.inx : EncodedLength.Statement (.inx) := ⟨_, _, rfl, rfl, of_decide_eq_true rfl⟩
theorem EncodedLength.sbcImm (b1 : Byte) : EncodedLength.Statement (.sbcImm b1) := ⟨_, _, rfl, rfl, of_decide_eq_true rfl⟩
theorem EncodedLength.nop : EncodedLength.Statement (.nop) := ⟨_, _, rfl, rfl, of_decide_eq_true rfl⟩
theorem EncodedLength.sbcImmEB (b1 : Byte) : EncodedLength.Statement (.sbcImmEB b1) := ⟨_, _, rfl, rfl, of_decide_eq_true rfl⟩
theorem EncodedLength.cpxAbs (addr : Word) : EncodedLength.Statement (.cpxAbs addr) := ⟨_, _, rfl, rfl, of_decide_eq_true rfl⟩
theorem EncodedLength.sbcAbs (addr : Word) : EncodedLength.Statement (.sbcAbs addr) := ⟨_, _, rfl, rfl, of_decide_eq_true rfl⟩
theorem EncodedLength.incAbs (addr : Word) : EncodedLength.Statement (.incAbs addr) := ⟨_, _, rfl, rfl, of_decide_eq_true rfl⟩
theorem EncodedLength.isbAbs (addr : Word) : EncodedLength.Statement (.isbAbs addr) := ⟨_, _, rfl, rfl, of_decide_eq_true rfl⟩
theorem EncodedLength.beq (b1 : Byte) : EncodedLength.Statement (.beq b1) := ⟨_, _, rfl, rfl, of_decide_eq_true rfl⟩
theorem EncodedLength.sbcIzy (b1 : Byte) : EncodedLength.Statement (.sbcIzy b1) := ⟨_, _, rfl, rfl, of_decide_eq_true rfl⟩
theorem EncodedLength.illegalF2 : EncodedLength.Statement (.illegalF2) := ⟨_, _, rfl, rfl, of_decide_eq_true rfl⟩
theorem EncodedLength.isbIzy (b1 : Byte) : EncodedLength.Statement (.isbIzy b1) := ⟨_, _, rfl, rfl, of_decide_eq_true rfl⟩
theorem EncodedLength.nopF4 (b1 : Byte) : EncodedLength.Statement (.nopF4 b1) := ⟨_, _, rfl, rfl, of_decide_eq_true rfl⟩
theorem EncodedLength.sbcZpx (b1 : Byte) : EncodedLength.Statement (.sbcZpx b1) := ⟨_, _, rfl, rfl, of_decide_eq_true rfl⟩
theorem EncodedLength.incZpx (b1 : Byte) : EncodedLength.Statement (.incZpx b1) := ⟨_, _, rfl, rfl, of_decide_eq_true rfl⟩
theorem EncodedLength.isbZpx (b1 : Byte) : EncodedLength.Statement (.isbZpx b1) := ⟨_, _, rfl, rfl, of_decide_eq_true rfl⟩
theorem EncodedLength.sed : EncodedLength.Statement (.sed) := ⟨_, _, rfl, rfl, of_decide_eq_true rfl⟩
theorem EncodedLength.sbcAby (addr : Word) : EncodedLength.Statement (.sbcAby addr) := ⟨_, _, rfl, rfl, of_decide_eq_true rfl⟩
theorem EncodedLength.nopFA : EncodedLength.Statement (.nopFA) := ⟨_, _, rfl, rfl, of_decide_eq_true rfl⟩
theorem EncodedLength.isbAby (addr : Word) : EncodedLength.Statement (.isbAby addr) := ⟨_, _, rfl, rfl, of_decide_eq_true rfl⟩
theorem EncodedLength.nopFC (addr : Word) : EncodedLength.Statement (.nopFC addr) := ⟨_, _, rfl, rfl, of_decide_eq_true rfl⟩
theorem EncodedLength.sbcAbx (addr : Word) : EncodedLength.Statement (.sbcAbx addr) := ⟨_, _, rfl, rfl, of_decide_eq_true rfl⟩
theorem EncodedLength.incAbx (addr : Word) : EncodedLength.Statement (.incAbx addr) := ⟨_, _, rfl, rfl, of_decide_eq_true rfl⟩
theorem EncodedLength.isbAbx (addr : Word) : EncodedLength.Statement (.isbAbx addr) := ⟨_, _, rfl, rfl, of_decide_eq_true rfl⟩

end Sys2Proof.Laws
end

