-- ==== Sys2Proof/Laws/Run.lean ====
section
/-! SUPPORT. The 231 executed instructions seen through their descriptors: one operation per mnemonic, applied by the shape of the
mode. `exec_eq_run` turns a claim about every instruction into one about 64 mnemonics. -/

namespace Sys2Proof.Machine

/-- No instruction has this mode: a value that answers no next state. -/
def noSuchForm (s : State) : Out := .fault (.illegalOpcode s.pc 0 s.regs)

/-- The shape of an instruction that reads its operand. -/
def runRead (op : Byte → State → State) (d : Descriptor) (s : State) : Out :=
  match d.mode with
  | .imm b1 => execImmediate d.cycles op b1 s
  | .mem m => execRead d.cycles d.penalty op m s
  | .imp => noSuchForm s
  | .acc => noSuchForm s
  | .rel _ => noSuchForm s
  | .ind _ => noSuchForm s

/-- The shape of a store. -/
def runStore (val : State → Byte) (d : Descriptor) (s : State) : Out :=
  match d.mode with
  | .mem m => execStore d.cycles val m s
  | .imm _ => noSuchForm s
  | .imp => noSuchForm s
  | .acc => noSuchForm s
  | .rel _ => noSuchForm s
  | .ind _ => noSuchForm s

/-- The shape of a read-modify-write, with its accumulator form. -/
def runModify (acc : State → State) (result : Byte → State → Byte) (before : Byte → State → State)
    (after : Byte → Byte → State → State) (d : Descriptor) (s : State) : Out :=
  match d.mode with
  | .mem m => execModify d.cycles result before after m s
  | .acc => execImplied d.cycles acc s
  | .imp => noSuchForm s
  | .imm _ => noSuchForm s
  | .rel _ => noSuchForm s
  | .ind _ => noSuchForm s

/-- The shape of a read-modify-write without an accumulator form. -/
def runModifyMem (result : Byte → State → Byte) (before : Byte → State → State)
    (after : Byte → Byte → State → State) (d : Descriptor) (s : State) : Out :=
  match d.mode with
  | .mem m => execModify d.cycles result before after m s
  | .acc => noSuchForm s
  | .imp => noSuchForm s
  | .imm _ => noSuchForm s
  | .rel _ => noSuchForm s
  | .ind _ => noSuchForm s

/-- The shape of a branch. -/
def runBranch (taken : State → Bool) (d : Descriptor) (s : State) : Out :=
  match d.mode with
  | .rel b1 => execBranch d.cycles taken b1 s
  | .imp => noSuchForm s
  | .acc => noSuchForm s
  | .imm _ => noSuchForm s
  | .mem _ => noSuchForm s
  | .ind _ => noSuchForm s

/-- An instruction of implied mode. -/
def runImplied (op : State → State) (d : Descriptor) (s : State) : Out :=
  match d.mode with
  | .imp => execImplied d.cycles op s
  | .acc => noSuchForm s
  | .imm _ => noSuchForm s
  | .mem _ => noSuchForm s
  | .rel _ => noSuchForm s
  | .ind _ => noSuchForm s

/-- NOP in every mode it has. -/
def runNop (d : Descriptor) (s : State) : Out :=
  match d.mode with
  | .imp => execImplied d.cycles opNop s
  | .imm b1 => execImmediate d.cycles (fun _ => opNop) b1 s
  | .mem m => execNoAccess d.cycles d.penalty m s
  | .acc => noSuchForm s
  | .rel _ => noSuchForm s
  | .ind _ => noSuchForm s

/-- JMP in its two modes. -/
def runJmp (d : Descriptor) (s : State) : Out :=
  match d.mode with
  | .mem (.abs addr) => execJmpAbs addr s
  | .ind addr => execJmpInd addr s
  | .mem _ => noSuchForm s
  | .imp => noSuchForm s
  | .imm _ => noSuchForm s
  | .acc => noSuchForm s
  | .rel _ => noSuchForm s

/-- JSR. -/
def runJsr (d : Descriptor) (s : State) : Out :=
  match d.mode with
  | .mem (.abs addr) => execJsr addr s
  | .mem _ => noSuchForm s
  | .ind _ => noSuchForm s
  | .imp => noSuchForm s
  | .imm _ => noSuchForm s
  | .acc => noSuchForm s
  | .rel _ => noSuchForm s

/-- The meaning a descriptor selects. -/
def run (d : Descriptor) (s : State) : Out :=
  match d.mnemonic with
  | .adc => runRead opAdc d s
  | .sbc => runRead opSbc d s
  | .and => runRead opAnd d s
  | .ora => runRead opOra d s
  | .eor => runRead opEor d s
  | .bit => runRead opBit d s
  | .cmp => runRead opCmp d s
  | .cpx => runRead opCpx d s
  | .cpy => runRead opCpy d s
  | .lda => runRead putA d s
  | .ldx => runRead putX d s
  | .ldy => runRead putY d s
  | .lax => runRead opLax d s
  | .sta => runStore State.a d s
  | .stx => runStore State.x d s
  | .sty => runStore State.y d s
  | .sax => runStore saxByte d s
  | .asl => runModify (leftA aslByte) aslByte noneBefore leftFlags d s
  | .lsr => runModify (rightA lsrByte) lsrByte noneBefore rightFlags d s
  | .rol => runModify (leftA rolByte) rolByte noneBefore leftFlags d s
  | .ror => runModify (rightA rorByte) rorByte noneBefore rightFlags d s
  | .inc => runModifyMem incByte noneBefore updateAfter d s
  | .dec => runModifyMem decByte noneBefore updateAfter d s
  | .dcp => runModifyMem decByte noneBefore dcpAfter d s
  | .isb => runModifyMem incByte noneBefore isbAfter d s
  | .slo => runModifyMem aslByte carryFromHigh sloAfter d s
  | .rla => runModifyMem rolByte carryFromHigh rlaAfter d s
  | .sre => runModifyMem lsrByte carryFromLow sreAfter d s
  | .rra => runModifyMem rorByte carryFromLow rraAfter d s
  | .bcc => runBranch (fun s => !getFlag .c s.p) d s
  | .bcs => runBranch (fun s => getFlag .c s.p) d s
  | .beq => runBranch (fun s => getFlag .z s.p) d s
  | .bmi => runBranch (fun s => getFlag .n s.p) d s
  | .bne => runBranch (fun s => !getFlag .z s.p) d s
  | .bpl => runBranch (fun s => !getFlag .n s.p) d s
  | .bvc => runBranch (fun s => !getFlag .v s.p) d s
  | .bvs => runBranch (fun s => getFlag .v s.p) d s
  | .inx => runImplied (fun s => putX (s.x + 1) s) d s
  | .iny => runImplied (fun s => putY (s.y + 1) s) d s
  | .dex => runImplied (fun s => putX (s.x - 1) s) d s
  | .dey => runImplied (fun s => putY (s.y - 1) s) d s
  | .tax => runImplied (fun s => putX s.a s) d s
  | .tay => runImplied (fun s => putY s.a s) d s
  | .txa => runImplied (fun s => putA s.x s) d s
  | .tya => runImplied (fun s => putA s.y s) d s
  | .tsx => runImplied (fun s => putX s.sp s) d s
  | .txs => runImplied (fun s => s.setSp s.x) d s
  | .pha => runImplied (fun s => push s.a s) d s
  | .php => runImplied opPhp d s
  | .pla => runImplied opPla d s
  | .plp => runImplied opPlp d s
  | .clc => runImplied (opFlag .c false) d s
  | .sec => runImplied (opFlag .c true) d s
  | .cli => runImplied (opFlag .i false) d s
  | .sei => runImplied (opFlag .i true) d s
  | .cld => runImplied (opFlag .d false) d s
  | .sed => runImplied (opFlag .d true) d s
  | .clv => runImplied (opFlag .v false) d s
  | .brk => runImplied opBrk d s
  | .rti => runImplied trapReturn d s
  | .rts => runImplied opRts d s
  | .jsr => runJsr d s
  | .jmp => runJmp d s
  | .nop => runNop d s

/-- What the meaning of `i` is to its descriptor. -/
def runsAs (i : Instr) : Prop :=
  match descriptor i with
  | some d => ∀ s, exec i s = run d s
  | none => True

theorem runs_as (i : Instr) : runsAs i := by
  cases i <;> first | exact fun _ => rfl | exact trivial

/-- Every executed instruction is what its descriptor's mnemonic does in its mode. -/
theorem exec_eq_run {i : Instr} {d : Descriptor} (h : descriptor i = some d) (s : State) : exec i s = run d s := by
  have := runs_as i
  unfold runsAs at this
  rw [h] at this
  exact this s

/-! ### What each shape leaves alone -/

section
variable {β : Type} (g : State → β)

/-- A function of the state that time, devices and the operation leave alone is left alone by a reading instruction. -/
theorem runRead_same (ht : ∀ n s, g (tick n s) = g s) (hd : ∀ s t, OnlyDevices s t → g t = g s) {op : Byte → State → State}
    (ho : ∀ v s, g (op v s) = g s) {d : Descriptor} {s t : State} (h : runRead op d s = .next t) :
    g t = g (s.atNext d.mode.length) := by
  obtain ⟨mn, md, c, p⟩ := d
  cases md <;> simp only [runRead, noSuchForm, execImmediate, reduceCtorEq] at h
  · cases h; rw [ht, ho]; rfl
  · obtain ⟨v, s1, h1, rfl⟩ := execRead_next h
    rw [ht, ho, hd _ _ (busRead_onlyDevices h1)]; rfl

/-- The same of a store. -/
theorem runStore_same (ht : ∀ n s, g (tick n s) = g s) (hd : ∀ s t, OnlyRamAndDevices s t → g t = g s) {val : State → Byte}
    {d : Descriptor} {s t : State} (h : runStore val d s = .next t) :
    g t = g (s.atNext d.mode.length) := by
  obtain ⟨mn, md, c, p⟩ := d
  cases md <;> simp only [runStore, noSuchForm, reduceCtorEq] at h
  obtain ⟨s1, h1, rfl⟩ := execStore_next h
  rw [ht, hd _ _ (busWrite_onlyRamAndDevices h1)]; rfl

/-- The same of a read-modify-write. -/
theorem runModifyMem_same (ht : ∀ n s, g (tick n s) = g s) (hd : ∀ s t, OnlyRamAndDevices s t → g t = g s)
    {result : Byte → State → Byte}
    {before : Byte → State → State} {after : Byte → Byte → State → State} (hb : ∀ v s, g (before v s) = g s)
    (ha : ∀ v r s, g (after v r s) = g s) {d : Descriptor} {s t : State} (h : runModifyMem result before after d s = .next t) :
    g t = g (s.atNext d.mode.length) := by
  obtain ⟨mn, md, c, p⟩ := d
  cases md <;> simp only [runModifyMem, noSuchForm, reduceCtorEq] at h
  obtain ⟨v, s1, s2, h1, h2, rfl⟩ := execModify_next h
  rw [ht, ha, hd _ _ (busWrite_onlyRamAndDevices h2), hb, hd _ _ (busRead_onlyDevices h1).toRam]; rfl

/-- The same of a read-modify-write with an accumulator form. -/
theorem runModify_same (ht : ∀ n s, g (tick n s) = g s) (hd : ∀ s t, OnlyRamAndDevices s t → g t = g s)
    {acc : State → State} {result : Byte → State → Byte}
    {before : Byte → State → State} {after : Byte → Byte → State → State} (hb : ∀ v s, g (before v s) = g s)
    (ha : ∀ v r s, g (after v r s) = g s) {d : Descriptor} {s t : State} (hacc : d.mode = .acc → ∀ s, g (acc s) = g s)
    (h : runModify acc result before after d s = .next t) :
    g t = g (s.atNext d.mode.length) := by
  obtain ⟨mn, md, c, p⟩ := d
  cases md <;> simp only [runModify, noSuchForm, execImplied, reduceCtorEq] at h
  · cases h; rw [ht, hacc rfl]; rfl
  obtain ⟨v, s1, s2, h1, h2, rfl⟩ := execModify_next h
  rw [ht, ha, hd _ _ (busWrite_onlyRamAndDevices h2), hb, hd _ _ (busRead_onlyDevices h1).toRam]; rfl

/-- The same of an implied instruction. -/
theorem runImplied_same (ht : ∀ n s, g (tick n s) = g s) {op : State → State}
    (ho : ∀ s, g (op s) = g s) {d : Descriptor} {s t : State} (h : runImplied op d s = .next t) :
    g t = g (s.atNext d.mode.length) := by
  obtain ⟨mn, md, c, p⟩ := d
  cases md <;> simp only [runImplied, noSuchForm, execImplied, reduceCtorEq] at h
  · cases h; rw [ht, ho]; rfl

/-- The same of NOP. -/
theorem runNop_same (ht : ∀ n s, g (tick n s) = g s) {d : Descriptor} {s t : State} (h : runNop d s = .next t) :
    g t = g (s.atNext d.mode.length) := by
  obtain ⟨mn, md, c, p⟩ := d
  cases md <;> simp only [runNop, noSuchForm, execImplied, execImmediate, execNoAccess, opNop, reduceCtorEq] at h
  · cases h; rw [ht]; rfl
  · cases h; rw [ht]; rfl
  · cases h; rw [ht]; rfl

/-- The same of a branch, of a function that does not see PC. -/
theorem runBranch_same (ht : ∀ n s, g (tick n s) = g s) (hpc : ∀ w s, g (s.setPc w) = g s)
    {taken : State → Bool} {d : Descriptor} {s t : State} (h : runBranch taken d s = .next t) :
    g t = g (s.atNext d.mode.length) := by
  obtain ⟨mn, md, c, p⟩ := d
  cases md <;> simp only [runBranch, noSuchForm, reduceCtorEq] at h
  obtain ⟨n, w, h'⟩ := execBranch_next (cycles := c) (taken := taken) (b1 := ‹_›) (s := s)
  rw [h'] at h; cases h
  rw [ht, hpc]; rfl

/-- The same of JMP. -/
theorem runJmp_same (ht : ∀ n s, g (tick n s) = g s) (hd : ∀ s t, OnlyDevices s t → g t = g s) (hpc : ∀ w s, g (s.setPc w) = g s)
    {d : Descriptor} {s t : State} (h : runJmp d s = .next t) :
    g t = g (s.atNext d.mode.length) := by
  obtain ⟨mn, md, c, p⟩ := d
  cases md with
  | mem m => cases m <;> simp only [runJmp, noSuchForm, execJmpAbs, reduceCtorEq] at h
             cases h; rw [ht, hpc]; rfl
  | ind a =>
    simp only [runJmp, execJmpInd] at h
    split at h
    · cases h
    · next h1 => cases h; rw [ht, hpc, hd _ _ (indirectTarget_onlyDevices h1)]; rfl
  | _ => simp only [runJmp, noSuchForm, reduceCtorEq] at h

/-- The same of JSR. -/
theorem runJsr_same (ht : ∀ n s, g (tick n s) = g s) (ho : ∀ a s, g (opJsr a s) = g s) {d : Descriptor} {s t : State} (h : runJsr d s = .next t) :
    g t = g (s.atNext d.mode.length) := by
  obtain ⟨mn, md, c, p⟩ := d
  cases md with
  | mem m => cases m <;> simp only [runJsr, noSuchForm, execJsr, reduceCtorEq] at h
             cases h; rw [ht, ho]; rfl
  | _ => simp only [runJsr, noSuchForm, reduceCtorEq] at h
end

/-- BRK's two settings over one trap entry (42_control_flow.md R162). -/
theorem opBrk_cases (s : State) :
    opBrk s = loadVector 0xFFFE (trapEntry (s.pc + 1) (breakStatus s.p) s) ∨
      opBrk s = (trapEntry (s.pc + 1) (breakStatus s.p) s).setRunning false := by
  unfold opBrk; cases s.params.brkMode
  · left; rfl
  · right; rfl

/-! ### A property every instruction keeps -/

/-- `t` is `s` but for the registers and the running flag: what the register operations can change. -/
def OnlyRegs (s t : State) : Prop :=
  t = { s with a := t.a, x := t.x, y := t.y, sp := t.sp, p := t.p, pc := t.pc, running := t.running }

/-- `J` is kept by everything an instruction is made of. -/
structure Kept (J : State → Prop) : Prop where
  regs : ∀ s t, OnlyRegs s t → J s → J t
  read : ∀ pc0 a v s t, busRead pc0 a s = .ok v t → J s → J t
  write : ∀ pc0 a v s t, busWrite pc0 a v s = .ok () t → J s → J t
  push : ∀ v s, J s → J (push v s)
  time : ∀ n s, J s → J (tick n s)

section
variable {J : State → Prop} (hJ : Kept J)
include hJ

theorem runRead_keeps {op : Byte → State → State} (ho : ∀ v s, OnlyRegs s (op v s)) {d : Descriptor} {s t : State} (hs : J s)
    (h : runRead op d s = .next t) : J t := by
  obtain ⟨mn, md, c, p⟩ := d
  cases md <;> simp only [runRead, noSuchForm, execImmediate, reduceCtorEq] at h
  · cases h; exact hJ.time _ _ (hJ.regs _ _ (ho _ _) (hJ.regs s _ rfl hs))
  · obtain ⟨v, s1, h1, rfl⟩ := execRead_next h
    exact hJ.time _ _ (hJ.regs _ _ (ho _ _) (hJ.read _ _ _ _ _ h1 (hJ.regs s _ rfl hs)))

theorem runStore_keeps {val : State → Byte} {d : Descriptor} {s t : State} (hs : J s) (h : runStore val d s = .next t) : J t := by
  obtain ⟨mn, md, c, p⟩ := d
  cases md <;> simp only [runStore, noSuchForm, reduceCtorEq] at h
  obtain ⟨s1, h1, rfl⟩ := execStore_next h
  exact hJ.time _ _ (hJ.write _ _ _ _ _ h1 (hJ.regs s _ rfl hs))

theorem execModify_keeps {result : Byte → State → Byte} {before : Byte → State → State} {after : Byte → Byte → State → State}
    (hb : ∀ v s, OnlyRegs s (before v s)) (ha : ∀ v r s, OnlyRegs s (after v r s)) {c : Nat} {m : MemMode} {s t : State} (hs : J s)
    (h : execModify c result before after m s = .next t) : J t := by
  obtain ⟨v, s1, s2, h1, h2, rfl⟩ := execModify_next h
  have j1 := hJ.read _ _ _ _ _ h1 (hJ.regs s _ rfl hs)
  exact hJ.time _ _ (hJ.regs _ _ (ha _ _ _) (hJ.write _ _ _ _ _ h2 (hJ.regs _ _ (hb _ _) j1)))

theorem runModifyMem_keeps {result : Byte → State → Byte} {before : Byte → State → State} {after : Byte → Byte → State → State}
    (hb : ∀ v s, OnlyRegs s (before v s)) (ha : ∀ v r s, OnlyRegs s (after v r s)) {d : Descriptor} {s t : State} (hs : J s)
    (h : runModifyMem result before after d s = .next t) : J t := by
  obtain ⟨mn, md, c, p⟩ := d
  cases md <;> simp only [runModifyMem, noSuchForm, reduceCtorEq] at h
  exact execModify_keeps hJ hb ha hs h

theorem runImplied_keeps {op : State → State} (ho : ∀ s, J s → J (op s)) {d : Descriptor} {s t : State} (hs : J s)
    (h : runImplied op d s = .next t) : J t := by
  obtain ⟨mn, md, c, p⟩ := d
  cases md <;> simp only [runImplied, noSuchForm, execImplied, reduceCtorEq] at h
  cases h; exact hJ.time _ _ (ho _ (hJ.regs s _ rfl hs))

theorem runImplied_keeps_regs {op : State → State} (ho : ∀ s, OnlyRegs s (op s)) {d : Descriptor} {s t : State} (hs : J s)
    (h : runImplied op d s = .next t) : J t :=
  runImplied_keeps hJ (fun _ => hJ.regs _ _ (ho _)) hs h

theorem runModify_keeps {acc : State → State} {result : Byte → State → Byte} {before : Byte → State → State}
    {after : Byte → Byte → State → State} (hacc : ∀ s, OnlyRegs s (acc s)) (hb : ∀ v s, OnlyRegs s (before v s))
    (ha : ∀ v r s, OnlyRegs s (after v r s)) {d : Descriptor} {s t : State} (hs : J s)
    (h : runModify acc result before after d s = .next t) : J t := by
  obtain ⟨mn, md, c, p⟩ := d
  cases md <;> simp only [runModify, noSuchForm, execImplied, reduceCtorEq] at h
  · cases h; exact hJ.time _ _ (hJ.regs _ _ (hacc _) (hJ.regs s _ rfl hs))
  · exact execModify_keeps hJ hb ha hs h

theorem runBranch_keeps {taken : State → Bool} {d : Descriptor} {s t : State} (hs : J s) (h : runBranch taken d s = .next t) : J t := by
  obtain ⟨mn, md, c, p⟩ := d
  cases md <;> simp only [runBranch, noSuchForm, reduceCtorEq] at h
  obtain ⟨n, w, h'⟩ := execBranch_next (cycles := c) (taken := taken) (b1 := ‹_›) (s := s)
  rw [h'] at h; cases h
  exact hJ.time _ _ (hJ.regs s _ rfl hs)

theorem runJmp_keeps {d : Descriptor} {s t : State} (hs : J s) (h : runJmp d s = .next t) : J t := by
  obtain ⟨mn, md, c, p⟩ := d
  cases md with
  | mem m =>
    cases m <;> simp only [runJmp, noSuchForm, execJmpAbs, reduceCtorEq] at h
    cases h; exact hJ.time _ _ (hJ.regs s _ rfl hs)
  | ind a =>
    simp only [runJmp, execJmpInd, indirectTarget] at h
    split at h
    · cases h
    · next h1 =>
      cases h
      split at h1
      · cases h1
      · next r1 =>
        split at h1
        · cases h1
        · next r2 =>
          cases h1
          have j2 := hJ.read _ _ _ _ _ r2 (hJ.read _ _ _ _ _ r1 (hJ.regs s _ rfl hs))
          exact hJ.time _ _ (hJ.regs _ _ (by rfl) j2)
  | _ => simp only [runJmp, noSuchForm, reduceCtorEq] at h

theorem runJsr_keeps {d : Descriptor} {s t : State} (hs : J s) (h : runJsr d s = .next t) : J t := by
  obtain ⟨mn, md, c, p⟩ := d
  cases md with
  | mem m =>
    cases m <;> simp only [runJsr, noSuchForm, execJsr, reduceCtorEq] at h
    cases h; exact hJ.time _ _ (hJ.regs (push16 _ (s.atNext 3)) _ rfl (hJ.push _ _ (hJ.push _ _ (hJ.regs s _ rfl hs))))
  | _ => simp only [runJsr, noSuchForm, reduceCtorEq] at h

theorem runNop_keeps {d : Descriptor} {s t : State} (hs : J s) (h : runNop d s = .next t) : J t := by
  obtain ⟨mn, md, c, p⟩ := d
  cases md <;> simp only [runNop, noSuchForm, execImplied, execImmediate, execNoAccess, opNop, reduceCtorEq] at h <;>
    (cases h; exact hJ.time _ _ (hJ.regs s _ rfl hs))

theorem trapEntry_keeps (ret : Word) (st : Byte) {s : State} (hs : J s) : J (trapEntry ret st s) :=
  hJ.regs (Machine.push st (push16 ret s)) _ rfl (hJ.push _ _ (hJ.push _ _ (hJ.push _ _ hs)))

theorem opBrk_keeps {s : State} (hs : J s) : J (opBrk s) := by
  rcases opBrk_cases s with e | e <;> rw [e] <;> exact hJ.regs (trapEntry _ _ s) _ rfl (trapEntry_keeps hJ _ _ hs)

/-- What everything an instruction is made of keeps, every executed instruction keeps. -/
theorem run_keeps (d : Descriptor) (s t : State) (hs : J s) (h : run d s = .next t) : J t := by
  unfold run at h
  split at h <;> rename_i hm
  all_goals first
    | exact runRead_keeps hJ (by intros; rfl) hs h
    | exact runStore_keeps hJ hs h
    | exact runModify_keeps hJ (by intros; rfl) (by intros; rfl) (by intros; rfl) hs h
    | exact runModifyMem_keeps hJ (by intros; rfl) (by intros; rfl) hs h
    | exact runBranch_keeps hJ hs h
    | exact runJmp_keeps hJ hs h
    | exact runJsr_keeps hJ hs h
    | exact runNop_keeps hJ hs h
    | (have : d.mnemonic = .brk := hm; exact runImplied_keeps hJ (fun _ => opBrk_keeps hJ) hs h)
    | (have : d.mnemonic = .php := hm; exact runImplied_keeps hJ (fun _ => hJ.push _ _) hs h)
    | (have : d.mnemonic = .pha := hm; exact runImplied_keeps hJ (fun _ => hJ.push _ _) hs h)
    | exact runImplied_keeps_regs hJ (by intros; rfl) hs h

end

end Sys2Proof.Machine
end

