-- ==== Sys2Proof/Tests/Slice0.lean ====
section
/-! SUPPORT. The model's own tests: the WellFormed smoke test, words decoded, one-step vectors and port accesses of
spec/95_test_vectors.md (expected results are that file's), and for each statement with hypotheses a witness that meets them. -/

namespace Sys2Proof.Tests

open Sys2Proof Sys2Proof.Machine

/-! ### Helpers -/

/-- The start state of 95_test_vectors.md, Conventions: a 16 KiB image with `code` at the PC given, NMI vector 0x9000, BRK vector
0x9100, unbuffered reads; the registers and RAM cells given. -/
def start (mode : BrkMode) (code : List Byte) (r : Regs) (cells : List (Nat × Byte)) : State :=
  let vectors := placePrg 0x3FFA [0x00, 0x90, 0x00, 0x80, 0x00, 0x91] []
  let s := State.powerOn { brkMode := mode, readBuffered := false } (some r.pc)
    { banks := .one, prg := placePrg (r.pc.toNat - 0x8000) code vectors, chr := [], mirroring := .horizontal }
  let s := cells.foldl (fun s c => ramStore c.1 c.2 s) s
  { s with a := r.a, x := r.x, y := r.y, sp := r.sp, p := r.p }

/-- The registers after reset. -/
def regs0 : Regs := ⟨0x00, 0x00, 0x00, 0xFD, 0x24, 0x8000⟩

/-- The outcome is a next state with this property. -/
def answers (o : Out) (q : State → Bool) : Bool :=
  match o with
  | .next t => q t
  | .fault _ => false
  | .refused _ => false

/-- One step from `s` completes with these registers, running flag and cycle total, and these RAM cells. -/
def becomes (s : State) (r : Regs) (running : Bool) (cycles : Nat) (cells : List (Nat × Byte)) : Bool :=
  answers (step s) fun t =>
    decide (t.regs = r) && t.running == running && t.cycles == cycles && cells.all fun c => ramByte t c.1 == c.2

/-- One step from `s` ends with this fault. -/
def faults (s : State) (f : Fault) : Bool :=
  match step s with
  | .next _ => false
  | .fault g => decide (g = f)
  | .refused _ => false

/-- Port accesses in order, as by an instruction at 0x8000: a read where no byte is given, else a write; the bytes read and the state. -/
def accesses (l : List (Word × Option Byte)) (s : State) : Option (List Byte × State) :=
  match l with
  | [] => some ([], s)
  | (a, none) :: t =>
    match busRead 0x8000 a s with
    | .fault _ => none
    | .ok b s1 => (accesses t s1).map fun r => (b :: r.1, r.2)
  | (a, some v) :: t =>
    match busWrite 0x8000 a v s with
    | .fault _ => none
    | .ok _ s1 => accesses t s1

/-- The accesses complete, read these bytes and leave a state with this property. -/
def gives (l : List (Word × Option Byte)) (s : State) (bytes : List Byte) (q : State → Bool) : Bool :=
  match accesses l s with
  | none => false
  | some r => decide (r.1 = bytes) && q r.2

/-- The start state with another PPU. -/
def withPpu (f : Ppu → Ppu) : State := { start .halt [] regs0 [] with ppu := f Ppu.reset }

/-! ### One step (95_test_vectors.md, sections 2.1 to 2.5) -/

/-- R112: `LDA $FF,X` (95_test_vectors.md, section 2.1). -/
theorem test_ldaZpx : becomes (start .halt [0xB5, 0xFF] ⟨0x00, 0x02, 0x00, 0xFD, 0x24, 0x8000⟩ [(0x001, 0x77)])
    ⟨0x77, 0x02, 0x00, 0xFD, 0x24, 0x8002⟩ true 4 [] = true := by decide

/-- R112: `LDX $FE,Y` (95_test_vectors.md, section 2.1). -/
theorem test_ldxZpy : becomes (start .halt [0xB6, 0xFE] ⟨0x00, 0x00, 0x03, 0xFD, 0x24, 0x8000⟩ [(0x001, 0x55)])
    ⟨0x00, 0x55, 0x03, 0xFD, 0x24, 0x8002⟩ true 4 [] = true := by decide

/-- R114: `LDA $02F0,X` (95_test_vectors.md, section 2.1). -/
theorem test_ldaAbx : becomes (start .halt [0xBD, 0xF0, 0x02] ⟨0x00, 0x20, 0x00, 0xFD, 0x24, 0x8000⟩ [(0x310, 0x99)])
    ⟨0x99, 0x20, 0x00, 0xFD, 0xA4, 0x8003⟩ true 5 [] = true := by decide

/-- R114: `LDA $0200,X` (95_test_vectors.md, section 2.1). -/
theorem test_ldaAbx_second : becomes (start .halt [0xBD, 0x00, 0x02] ⟨0x00, 0x20, 0x00, 0xFD, 0x24, 0x8000⟩ [(0x220, 0x01)])
    ⟨0x01, 0x20, 0x00, 0xFD, 0x24, 0x8003⟩ true 4 [] = true := by decide

/-- R114: `STA $02F0,X` (95_test_vectors.md, section 2.1). -/
theorem test_staAbx : becomes (start .halt [0x9D, 0xF0, 0x02] ⟨0x42, 0x20, 0x00, 0xFD, 0x24, 0x8000⟩ [])
    ⟨0x42, 0x20, 0x00, 0xFD, 0x24, 0x8003⟩ true 5 [(0x310, 0x42)] = true := by decide

/-- R116: `JMP ($02FF)` (95_test_vectors.md, section 2.1). -/
theorem test_jmpInd : becomes (start .halt [0x6C, 0xFF, 0x02] ⟨0x00, 0x00, 0x00, 0xFD, 0x24, 0x8000⟩ [(0x200, 0x12), (0x2FF, 0x34), (0x300, 0x56)])
    ⟨0x00, 0x00, 0x00, 0xFD, 0x24, 0x1234⟩ true 5 [] = true := by decide

/-- R117: `LDA ($FF,X)` (95_test_vectors.md, section 2.1). -/
theorem test_ldaIzx : becomes (start .halt [0xA1, 0xFF] ⟨0x00, 0x00, 0x00, 0xFD, 0x24, 0x8000⟩ [(0x000, 0x03), (0x0FF, 0x00), (0x300, 0x5A)])
    ⟨0x5A, 0x00, 0x00, 0xFD, 0x24, 0x8002⟩ true 6 [] = true := by decide

/-- R118: `LDA ($10),Y` (95_test_vectors.md, section 2.1). -/
theorem test_ldaIzy : becomes (start .halt [0xB1, 0x10] ⟨0x00, 0x00, 0x10, 0xFD, 0x24, 0x8000⟩ [(0x010, 0xF8), (0x011, 0x02), (0x308, 0x66)])
    ⟨0x66, 0x00, 0x10, 0xFD, 0x24, 0x8002⟩ true 6 [] = true := by decide

/-- R118: `LDA ($10),Y` (95_test_vectors.md, section 2.1). -/
theorem test_ldaIzy_second : becomes (start .halt [0xB1, 0x10] ⟨0x00, 0x00, 0x01, 0xFD, 0x24, 0x8000⟩ [(0x010, 0x00), (0x011, 0x02), (0x201, 0x00)])
    ⟨0x00, 0x00, 0x01, 0xFD, 0x26, 0x8002⟩ true 5 [] = true := by decide

/-- R118: `STA ($FF),Y` (95_test_vectors.md, section 2.1). -/
theorem test_staIzy : becomes (start .halt [0x91, 0xFF] ⟨0x11, 0x00, 0x00, 0xFD, 0x24, 0x8000⟩ [(0x000, 0x01), (0x0FF, 0x40)])
    ⟨0x11, 0x00, 0x00, 0xFD, 0x24, 0x8002⟩ true 6 [(0x140, 0x11)] = true := by decide

/-- R120: `PHA at SP=00` (95_test_vectors.md, section 2.1). -/
theorem test_pha : becomes (start .halt [0x48] ⟨0xAB, 0x00, 0x00, 0x00, 0x24, 0x8000⟩ [])
    ⟨0xAB, 0x00, 0x00, 0xFF, 0x24, 0x8001⟩ true 3 [(0x100, 0xAB)] = true := by decide

/-- R121: `PLA at SP=FF` (95_test_vectors.md, section 2.1). -/
theorem test_pla : becomes (start .halt [0x68] ⟨0x00, 0x00, 0x00, 0xFF, 0x24, 0x8000⟩ [(0x100, 0x80)])
    ⟨0x80, 0x00, 0x00, 0x00, 0xA4, 0x8001⟩ true 4 [] = true := by decide

/-- R46: `LDA $0800 (mirror)` (95_test_vectors.md, section 2.1). -/
theorem test_ldaAbs : becomes (start .halt [0xAD, 0x00, 0x08] ⟨0x00, 0x00, 0x00, 0xFD, 0x24, 0x8000⟩ [(0x000, 0x3E)])
    ⟨0x3E, 0x00, 0x00, 0xFD, 0x24, 0x8003⟩ true 4 [] = true := by decide

/-- R46: `STA $1FFF (mirror)` (95_test_vectors.md, section 2.1). -/
theorem test_staAbs : becomes (start .halt [0x8D, 0xFF, 0x1F] ⟨0x44, 0x00, 0x00, 0xFD, 0x24, 0x8000⟩ [])
    ⟨0x44, 0x00, 0x00, 0xFD, 0x24, 0x8003⟩ true 4 [(0x7FF, 0x44)] = true := by decide

/-- R130: `ADC #$50` (95_test_vectors.md, section 2.2). -/
theorem test_adcImm : becomes (start .halt [0x69, 0x50] ⟨0x50, 0x00, 0x00, 0xFD, 0x24, 0x8000⟩ [])
    ⟨0xA0, 0x00, 0x00, 0xFD, 0xE4, 0x8002⟩ true 2 [] = true := by decide

/-- R130: `ADC #$01` (95_test_vectors.md, section 2.2). -/
theorem test_adcImm_second : becomes (start .halt [0x69, 0x01] ⟨0xFF, 0x00, 0x00, 0xFD, 0x24, 0x8000⟩ [])
    ⟨0x00, 0x00, 0x00, 0xFD, 0x27, 0x8002⟩ true 2 [] = true := by decide

/-- R131: `SBC #$F0 (C=1)` (95_test_vectors.md, section 2.2). -/
theorem test_sbcImm : becomes (start .halt [0xE9, 0xF0] ⟨0x50, 0x00, 0x00, 0xFD, 0x25, 0x8000⟩ [])
    ⟨0x60, 0x00, 0x00, 0xFD, 0x24, 0x8002⟩ true 2 [] = true := by decide

/-- R131: `SBC #$01 (C=1)` (95_test_vectors.md, section 2.2). -/
theorem test_sbcImm_second : becomes (start .halt [0xE9, 0x01] ⟨0x00, 0x00, 0x00, 0xFD, 0x25, 0x8000⟩ [])
    ⟨0xFF, 0x00, 0x00, 0xFD, 0xA4, 0x8002⟩ true 2 [] = true := by decide

/-- R132: `AND #$0F` (95_test_vectors.md, section 2.2). -/
theorem test_andImm : becomes (start .halt [0x29, 0x0F] ⟨0xF0, 0x00, 0x00, 0xFD, 0x24, 0x8000⟩ [])
    ⟨0x00, 0x00, 0x00, 0xFD, 0x26, 0x8002⟩ true 2 [] = true := by decide

/-- R133: `ORA #$A0` (95_test_vectors.md, section 2.2). -/
theorem test_oraImm : becomes (start .halt [0x09, 0xA0] ⟨0x0C, 0x00, 0x00, 0xFD, 0x24, 0x8000⟩ [])
    ⟨0xAC, 0x00, 0x00, 0xFD, 0xA4, 0x8002⟩ true 2 [] = true := by decide

/-- R134: `EOR #$0F` (95_test_vectors.md, section 2.2). -/
theorem test_eorImm : becomes (start .halt [0x49, 0x0F] ⟨0xFF, 0x00, 0x00, 0xFD, 0x24, 0x8000⟩ [])
    ⟨0xF0, 0x00, 0x00, 0xFD, 0xA4, 0x8002⟩ true 2 [] = true := by decide

/-- R134: `EOR $10` (95_test_vectors.md, section 2.2). -/
theorem test_eorZp : becomes (start .halt [0x45, 0x10] ⟨0x3C, 0x00, 0x00, 0xFD, 0x24, 0x8000⟩ [(0x010, 0x3C)])
    ⟨0x00, 0x00, 0x00, 0xFD, 0x26, 0x8002⟩ true 3 [] = true := by decide

/-- R135: `BIT $10` (95_test_vectors.md, section 2.2). -/
theorem test_bitZp : becomes (start .halt [0x24, 0x10] ⟨0x01, 0x00, 0x00, 0xFD, 0x24, 0x8000⟩ [(0x010, 0xC0)])
    ⟨0x01, 0x00, 0x00, 0xFD, 0xE6, 0x8002⟩ true 3 [] = true := by decide

/-- R135: `BIT $10` (95_test_vectors.md, section 2.2). -/
theorem test_bitZp_second : becomes (start .halt [0x24, 0x10] ⟨0xFF, 0x00, 0x00, 0xFD, 0x24, 0x8000⟩ [(0x010, 0x3F)])
    ⟨0xFF, 0x00, 0x00, 0xFD, 0x24, 0x8002⟩ true 3 [] = true := by decide

/-- R136: `CMP #$20` (95_test_vectors.md, section 2.2). -/
theorem test_cmpImm : becomes (start .halt [0xC9, 0x20] ⟨0x10, 0x00, 0x00, 0xFD, 0x24, 0x8000⟩ [])
    ⟨0x10, 0x00, 0x00, 0xFD, 0xA4, 0x8002⟩ true 2 [] = true := by decide

/-- R136: `CMP #$FF` (95_test_vectors.md, section 2.2). -/
theorem test_cmpImm_second : becomes (start .halt [0xC9, 0xFF] ⟨0x00, 0x00, 0x00, 0xFD, 0x24, 0x8000⟩ [])
    ⟨0x00, 0x00, 0x00, 0xFD, 0x24, 0x8002⟩ true 2 [] = true := by decide

/-- R137: `CPX #$05` (95_test_vectors.md, section 2.2). -/
theorem test_cpxImm : becomes (start .halt [0xE0, 0x05] ⟨0x00, 0x05, 0x00, 0xFD, 0x24, 0x8000⟩ [])
    ⟨0x00, 0x05, 0x00, 0xFD, 0x27, 0x8002⟩ true 2 [] = true := by decide

/-- R138: `CPY #$01` (95_test_vectors.md, section 2.2). -/
theorem test_cpyImm : becomes (start .halt [0xC0, 0x01] ⟨0x00, 0x00, 0x00, 0xFD, 0x24, 0x8000⟩ [])
    ⟨0x00, 0x00, 0x00, 0xFD, 0xA4, 0x8002⟩ true 2 [] = true := by decide

/-- R139: `INC $10` (95_test_vectors.md, section 2.2). -/
theorem test_incZp : becomes (start .halt [0xE6, 0x10] ⟨0x00, 0x00, 0x00, 0xFD, 0x24, 0x8000⟩ [(0x010, 0xFF)])
    ⟨0x00, 0x00, 0x00, 0xFD, 0x26, 0x8002⟩ true 5 [(0x010, 0x00)] = true := by decide

/-- R140: `DEC $10` (95_test_vectors.md, section 2.2). -/
theorem test_decZp : becomes (start .halt [0xC6, 0x10] ⟨0x00, 0x00, 0x00, 0xFD, 0x24, 0x8000⟩ [(0x010, 0x00)])
    ⟨0x00, 0x00, 0x00, 0xFD, 0xA4, 0x8002⟩ true 5 [(0x010, 0xFF)] = true := by decide

/-- R141: `INX` (95_test_vectors.md, section 2.2). -/
theorem test_inx : becomes (start .halt [0xE8] ⟨0x00, 0xFF, 0x00, 0xFD, 0x24, 0x8000⟩ [])
    ⟨0x00, 0x00, 0x00, 0xFD, 0x26, 0x8001⟩ true 2 [] = true := by decide

/-- R142: `INY` (95_test_vectors.md, section 2.2). -/
theorem test_iny : becomes (start .halt [0xC8] ⟨0x00, 0x00, 0x7F, 0xFD, 0x24, 0x8000⟩ [])
    ⟨0x00, 0x00, 0x80, 0xFD, 0xA4, 0x8001⟩ true 2 [] = true := by decide

/-- R143: `DEX` (95_test_vectors.md, section 2.2). -/
theorem test_dex : becomes (start .halt [0xCA] ⟨0x00, 0x00, 0x00, 0xFD, 0x24, 0x8000⟩ [])
    ⟨0x00, 0xFF, 0x00, 0xFD, 0xA4, 0x8001⟩ true 2 [] = true := by decide

/-- R144: `DEY` (95_test_vectors.md, section 2.2). -/
theorem test_dey : becomes (start .halt [0x88] ⟨0x00, 0x00, 0x01, 0xFD, 0x24, 0x8000⟩ [])
    ⟨0x00, 0x00, 0x00, 0xFD, 0x26, 0x8001⟩ true 2 [] = true := by decide

/-- R145: `ASL A` (95_test_vectors.md, section 2.2). -/
theorem test_aslAcc : becomes (start .halt [0x0A] ⟨0x81, 0x00, 0x00, 0xFD, 0x24, 0x8000⟩ [])
    ⟨0x02, 0x00, 0x00, 0xFD, 0x25, 0x8001⟩ true 2 [] = true := by decide

/-- R145: `ASL $10` (95_test_vectors.md, section 2.2). -/
theorem test_aslZp : becomes (start .halt [0x06, 0x10] ⟨0x00, 0x00, 0x00, 0xFD, 0x24, 0x8000⟩ [(0x010, 0x40)])
    ⟨0x00, 0x00, 0x00, 0xFD, 0xA4, 0x8002⟩ true 5 [(0x010, 0x80)] = true := by decide

/-- R146: `LSR A` (95_test_vectors.md, section 2.2). -/
theorem test_lsrAcc : becomes (start .halt [0x4A] ⟨0x01, 0x00, 0x00, 0xFD, 0x24, 0x8000⟩ [])
    ⟨0x00, 0x00, 0x00, 0xFD, 0x27, 0x8001⟩ true 2 [] = true := by decide

/-- R147: `ROL A (C=1)` (95_test_vectors.md, section 2.2). -/
theorem test_rolAcc : becomes (start .halt [0x2A] ⟨0x80, 0x00, 0x00, 0xFD, 0x25, 0x8000⟩ [])
    ⟨0x01, 0x00, 0x00, 0xFD, 0x25, 0x8001⟩ true 2 [] = true := by decide

/-- R148: `ROR A (C=1)` (95_test_vectors.md, section 2.2). -/
theorem test_rorAcc : becomes (start .halt [0x6A] ⟨0x01, 0x00, 0x00, 0xFD, 0x25, 0x8000⟩ [])
    ⟨0x80, 0x00, 0x00, 0xFD, 0xA5, 0x8001⟩ true 2 [] = true := by decide

/-- R148: `ROR $10 (C=0)` (95_test_vectors.md, section 2.2). -/
theorem test_rorZp : becomes (start .halt [0x66, 0x10] ⟨0x00, 0x00, 0x00, 0xFD, 0x24, 0x8000⟩ [(0x010, 0x02)])
    ⟨0x00, 0x00, 0x00, 0xFD, 0x24, 0x8002⟩ true 5 [(0x010, 0x01)] = true := by decide

/-- R153: `BEQ +4 (Z=0)` (95_test_vectors.md, section 2.3). -/
theorem test_beq : becomes (start .halt [0xF0, 0x04] ⟨0x00, 0x00, 0x00, 0xFD, 0x24, 0x8000⟩ [])
    ⟨0x00, 0x00, 0x00, 0xFD, 0x24, 0x8002⟩ true 2 [] = true := by decide

/-- R153: `BEQ +4 (Z=1)` (95_test_vectors.md, section 2.3). -/
theorem test_beq_second : becomes (start .halt [0xF0, 0x04] ⟨0x00, 0x00, 0x00, 0xFD, 0x26, 0x8000⟩ [])
    ⟨0x00, 0x00, 0x00, 0xFD, 0x26, 0x8006⟩ true 3 [] = true := by decide

/-- R155: `BNE +3 (Z=0) across a page` (95_test_vectors.md, section 2.3). -/
theorem test_bne : becomes (start .halt [0xD0, 0x03] ⟨0x00, 0x00, 0x00, 0xFD, 0x24, 0x80FD⟩ [])
    ⟨0x00, 0x00, 0x00, 0xFD, 0x24, 0x8102⟩ true 4 [] = true := by decide

/-- R151: `BCC +0 (C=0)` (95_test_vectors.md, section 2.3). -/
theorem test_bcc : becomes (start .halt [0x90, 0x00] ⟨0x00, 0x00, 0x00, 0xFD, 0x24, 0x8000⟩ [])
    ⟨0x00, 0x00, 0x00, 0xFD, 0x24, 0x8002⟩ true 3 [] = true := by decide

/-- R156: `BPL -128 (N=0)` (95_test_vectors.md, section 2.3). -/
theorem test_bpl : becomes (start .halt [0x10, 0x80] ⟨0x00, 0x00, 0x00, 0xFD, 0x24, 0x8100⟩ [])
    ⟨0x00, 0x00, 0x00, 0xFD, 0x24, 0x8082⟩ true 4 [] = true := by decide

/-- R159: `JMP $8123` (95_test_vectors.md, section 2.3). -/
theorem test_jmpAbs : becomes (start .halt [0x4C, 0x23, 0x81] ⟨0x00, 0x00, 0x00, 0xFD, 0x24, 0x8000⟩ [])
    ⟨0x00, 0x00, 0x00, 0xFD, 0x24, 0x8123⟩ true 3 [] = true := by decide

/-- R160: `JSR $8123` (95_test_vectors.md, section 2.3). -/
theorem test_jsr : becomes (start .halt [0x20, 0x23, 0x81] ⟨0x00, 0x00, 0x00, 0xFD, 0x24, 0x8000⟩ [])
    ⟨0x00, 0x00, 0x00, 0xFB, 0x24, 0x8123⟩ true 6 [(0x1FC, 0x02), (0x1FD, 0x80)] = true := by decide

/-- R161: `RTS` (95_test_vectors.md, section 2.3). -/
theorem test_rts : becomes (start .halt [0x60] ⟨0x00, 0x00, 0x00, 0xFB, 0x24, 0x8000⟩ [(0x1FC, 0x02), (0x1FD, 0x80)])
    ⟨0x00, 0x00, 0x00, 0xFD, 0x24, 0x8003⟩ true 6 [] = true := by decide

/-- R162: `BRK (Halt)` (95_test_vectors.md, section 2.3). -/
theorem test_brk : becomes (start .halt [0x00] ⟨0x00, 0x00, 0x00, 0xFD, 0x25, 0x8000⟩ [])
    ⟨0x00, 0x00, 0x00, 0xFA, 0x25, 0x8001⟩ false 7 [(0x1FB, 0x35), (0x1FC, 0x02), (0x1FD, 0x80)] = true := by decide

/-- R162: `BRK (Vector)` (95_test_vectors.md, section 2.3). -/
theorem test_brk_second : becomes (start .vector [0x00] ⟨0x00, 0x00, 0x00, 0xFD, 0x20, 0x8000⟩ [])
    ⟨0x00, 0x00, 0x00, 0xFA, 0x24, 0x9100⟩ true 7 [(0x1FB, 0x30), (0x1FC, 0x02), (0x1FD, 0x80)] = true := by decide

/-- R163: `RTI` (95_test_vectors.md, section 2.3). -/
theorem test_rti : becomes (start .halt [0x40] ⟨0x00, 0x00, 0x00, 0xFA, 0x24, 0x8000⟩ [(0x1FB, 0xFF), (0x1FC, 0x34), (0x1FD, 0x12)])
    ⟨0x00, 0x00, 0x00, 0xFD, 0xEF, 0x1234⟩ true 6 [] = true := by decide

/-- R170: `LDA #$00` (95_test_vectors.md, section 2.4). -/
theorem test_ldaImm : becomes (start .halt [0xA9, 0x00] ⟨0x55, 0x00, 0x00, 0xFD, 0x24, 0x8000⟩ [])
    ⟨0x00, 0x00, 0x00, 0xFD, 0x26, 0x8002⟩ true 2 [] = true := by decide

/-- R171: `LDX #$FF` (95_test_vectors.md, section 2.4). -/
theorem test_ldxImm : becomes (start .halt [0xA2, 0xFF] ⟨0x00, 0x00, 0x00, 0xFD, 0x24, 0x8000⟩ [])
    ⟨0x00, 0xFF, 0x00, 0xFD, 0xA4, 0x8002⟩ true 2 [] = true := by decide

/-- R172: `LDY $10` (95_test_vectors.md, section 2.4). -/
theorem test_ldyZp : becomes (start .halt [0xA4, 0x10] ⟨0x00, 0x00, 0x00, 0xFD, 0x24, 0x8000⟩ [(0x010, 0x01)])
    ⟨0x00, 0x00, 0x01, 0xFD, 0x24, 0x8002⟩ true 3 [] = true := by decide

/-- R173: `STA $10 (no flags)` (95_test_vectors.md, section 2.4). -/
theorem test_staZp : becomes (start .halt [0x85, 0x10] ⟨0x00, 0x00, 0x00, 0xFD, 0xA4, 0x8000⟩ [])
    ⟨0x00, 0x00, 0x00, 0xFD, 0xA4, 0x8002⟩ true 3 [] = true := by decide

/-- R174: `STX $F0,Y` (95_test_vectors.md, section 2.4). -/
theorem test_stxZpy : becomes (start .halt [0x96, 0xF0] ⟨0x00, 0x21, 0x20, 0xFD, 0x24, 0x8000⟩ [])
    ⟨0x00, 0x21, 0x20, 0xFD, 0x24, 0x8002⟩ true 4 [(0x010, 0x21)] = true := by decide

/-- R175: `STY $0234` (95_test_vectors.md, section 2.4). -/
theorem test_styAbs : becomes (start .halt [0x8C, 0x34, 0x02] ⟨0x00, 0x00, 0x99, 0xFD, 0x24, 0x8000⟩ [])
    ⟨0x00, 0x00, 0x99, 0xFD, 0x24, 0x8003⟩ true 4 [(0x234, 0x99)] = true := by decide

/-- R176: `TAX` (95_test_vectors.md, section 2.4). -/
theorem test_tax : becomes (start .halt [0xAA] ⟨0x00, 0x12, 0x00, 0xFD, 0x24, 0x8000⟩ [])
    ⟨0x00, 0x00, 0x00, 0xFD, 0x26, 0x8001⟩ true 2 [] = true := by decide

/-- R177: `TAY` (95_test_vectors.md, section 2.4). -/
theorem test_tay : becomes (start .halt [0xA8] ⟨0x90, 0x00, 0x00, 0xFD, 0x24, 0x8000⟩ [])
    ⟨0x90, 0x00, 0x90, 0xFD, 0xA4, 0x8001⟩ true 2 [] = true := by decide

/-- R178: `TXA` (95_test_vectors.md, section 2.4). -/
theorem test_txa : becomes (start .halt [0x8A] ⟨0x00, 0x01, 0x00, 0xFD, 0x24, 0x8000⟩ [])
    ⟨0x01, 0x01, 0x00, 0xFD, 0x24, 0x8001⟩ true 2 [] = true := by decide

/-- R179: `TYA` (95_test_vectors.md, section 2.4). -/
theorem test_tya : becomes (start .halt [0x98] ⟨0x12, 0x00, 0x00, 0xFD, 0x24, 0x8000⟩ [])
    ⟨0x00, 0x00, 0x00, 0xFD, 0x26, 0x8001⟩ true 2 [] = true := by decide

/-- R180: `TSX` (95_test_vectors.md, section 2.4). -/
theorem test_tsx : becomes (start .halt [0xBA] ⟨0x00, 0x00, 0x00, 0xFD, 0x24, 0x8000⟩ [])
    ⟨0x00, 0xFD, 0x00, 0xFD, 0xA4, 0x8001⟩ true 2 [] = true := by decide

/-- R181: `TXS` (95_test_vectors.md, section 2.4). -/
theorem test_txs : becomes (start .halt [0x9A] ⟨0x00, 0x00, 0x00, 0xFD, 0x24, 0x8000⟩ [])
    ⟨0x00, 0x00, 0x00, 0x00, 0x24, 0x8001⟩ true 2 [] = true := by decide

/-- R183: `PHP` (95_test_vectors.md, section 2.4). -/
theorem test_php : becomes (start .halt [0x08] ⟨0x00, 0x00, 0x00, 0xFD, 0xC3, 0x8000⟩ [])
    ⟨0x00, 0x00, 0x00, 0xFC, 0xC3, 0x8001⟩ true 3 [(0x1FD, 0xF3)] = true := by decide

/-- R185: `PLP` (95_test_vectors.md, section 2.4). -/
theorem test_plp : becomes (start .halt [0x28] ⟨0x00, 0x00, 0x00, 0xFC, 0x24, 0x8000⟩ [(0x1FD, 0xFF)])
    ⟨0x00, 0x00, 0x00, 0xFD, 0xEF, 0x8001⟩ true 4 [] = true := by decide

/-- R185: `PLP` (95_test_vectors.md, section 2.4). -/
theorem test_plp_second : becomes (start .halt [0x28] ⟨0x00, 0x00, 0x00, 0xFC, 0xEF, 0x8000⟩ [(0x1FD, 0x00)])
    ⟨0x00, 0x00, 0x00, 0xFD, 0x20, 0x8001⟩ true 4 [] = true := by decide

/-- R186: `CLC` (95_test_vectors.md, section 2.4). -/
theorem test_clc : becomes (start .halt [0x18] ⟨0x00, 0x00, 0x00, 0xFD, 0x25, 0x8000⟩ [])
    ⟨0x00, 0x00, 0x00, 0xFD, 0x24, 0x8001⟩ true 2 [] = true := by decide

/-- R187: `SEC` (95_test_vectors.md, section 2.4). -/
theorem test_sec : becomes (start .halt [0x38] ⟨0x00, 0x00, 0x00, 0xFD, 0x24, 0x8000⟩ [])
    ⟨0x00, 0x00, 0x00, 0xFD, 0x25, 0x8001⟩ true 2 [] = true := by decide

/-- R188: `CLI` (95_test_vectors.md, section 2.4). -/
theorem test_cli : becomes (start .halt [0x58] ⟨0x00, 0x00, 0x00, 0xFD, 0x24, 0x8000⟩ [])
    ⟨0x00, 0x00, 0x00, 0xFD, 0x20, 0x8001⟩ true 2 [] = true := by decide

/-- R189: `SEI` (95_test_vectors.md, section 2.4). -/
theorem test_sei : becomes (start .halt [0x78] ⟨0x00, 0x00, 0x00, 0xFD, 0x20, 0x8000⟩ [])
    ⟨0x00, 0x00, 0x00, 0xFD, 0x24, 0x8001⟩ true 2 [] = true := by decide

/-- R190: `CLD` (95_test_vectors.md, section 2.4). -/
theorem test_cld : becomes (start .halt [0xD8] ⟨0x00, 0x00, 0x00, 0xFD, 0x2C, 0x8000⟩ [])
    ⟨0x00, 0x00, 0x00, 0xFD, 0x24, 0x8001⟩ true 2 [] = true := by decide

/-- R191: `SED` (95_test_vectors.md, section 2.4). -/
theorem test_sed : becomes (start .halt [0xF8] ⟨0x00, 0x00, 0x00, 0xFD, 0x24, 0x8000⟩ [])
    ⟨0x00, 0x00, 0x00, 0xFD, 0x2C, 0x8001⟩ true 2 [] = true := by decide

/-- R192: `CLV` (95_test_vectors.md, section 2.4). -/
theorem test_clv : becomes (start .halt [0xB8] ⟨0x00, 0x00, 0x00, 0xFD, 0x64, 0x8000⟩ [])
    ⟨0x00, 0x00, 0x00, 0xFD, 0x24, 0x8001⟩ true 2 [] = true := by decide

/-- R193: `NOP` (95_test_vectors.md, section 2.4). -/
theorem test_nop : becomes (start .halt [0xEA] ⟨0x00, 0x00, 0x00, 0xFD, 0x24, 0x8000⟩ [])
    ⟨0x00, 0x00, 0x00, 0xFD, 0x24, 0x8001⟩ true 2 [] = true := by decide

/-- R200: `NOP $10 (0x04)` (95_test_vectors.md, section 2.5). -/
theorem test_nop04 : becomes (start .halt [0x04, 0x10] ⟨0x00, 0x00, 0x00, 0xFD, 0x24, 0x8000⟩ [])
    ⟨0x00, 0x00, 0x00, 0xFD, 0x24, 0x8002⟩ true 3 [] = true := by decide

/-- R200: `NOP $2000 (0x0C, write-only port, no read)` (95_test_vectors.md, section 2.5). -/
theorem test_nop0C : becomes (start .halt [0x0C, 0x00, 0x20] ⟨0x00, 0x00, 0x00, 0xFD, 0x24, 0x8000⟩ [])
    ⟨0x00, 0x00, 0x00, 0xFD, 0x24, 0x8003⟩ true 4 [] = true := by decide

/-- R200: `NOP $02F0,X (0x1C)` (95_test_vectors.md, section 2.5). -/
theorem test_nop1C : becomes (start .halt [0x1C, 0xF0, 0x02] ⟨0x00, 0x20, 0x00, 0xFD, 0x24, 0x8000⟩ [])
    ⟨0x00, 0x20, 0x00, 0xFD, 0x24, 0x8003⟩ true 5 [] = true := by decide

/-- R200: `NOP #$44 (0x80)` (95_test_vectors.md, section 2.5). -/
theorem test_nop80 : becomes (start .halt [0x80, 0x44] ⟨0x00, 0x00, 0x00, 0xFD, 0x24, 0x8000⟩ [])
    ⟨0x00, 0x00, 0x00, 0xFD, 0x24, 0x8002⟩ true 2 [] = true := by decide

/-- R200: `NOP (0x1A)` (95_test_vectors.md, section 2.5). -/
theorem test_nop1A : becomes (start .halt [0x1A] ⟨0x00, 0x00, 0x00, 0xFD, 0x24, 0x8000⟩ [])
    ⟨0x00, 0x00, 0x00, 0xFD, 0x24, 0x8001⟩ true 2 [] = true := by decide

/-- R201: `LAX $10` (95_test_vectors.md, section 2.5). -/
theorem test_laxZp : becomes (start .halt [0xA7, 0x10] ⟨0x00, 0x00, 0x00, 0xFD, 0x24, 0x8000⟩ [(0x010, 0x8F)])
    ⟨0x8F, 0x8F, 0x00, 0xFD, 0xA4, 0x8002⟩ true 3 [] = true := by decide

/-- R201: `LAX ($10),Y` (95_test_vectors.md, section 2.5). -/
theorem test_laxIzy : becomes (start .halt [0xB3, 0x10] ⟨0x00, 0x00, 0x10, 0xFD, 0x24, 0x8000⟩ [(0x010, 0xF8), (0x011, 0x02), (0x308, 0x00)])
    ⟨0x00, 0x00, 0x10, 0xFD, 0x26, 0x8002⟩ true 6 [] = true := by decide

/-- R202: `SAX $20` (95_test_vectors.md, section 2.5). -/
theorem test_saxZp : becomes (start .halt [0x87, 0x20] ⟨0xF0, 0x3C, 0x00, 0xFD, 0x24, 0x8000⟩ [])
    ⟨0xF0, 0x3C, 0x00, 0xFD, 0x24, 0x8002⟩ true 3 [(0x020, 0x30)] = true := by decide

/-- R203: `DCP $10` (95_test_vectors.md, section 2.5). -/
theorem test_dcpZp : becomes (start .halt [0xC7, 0x10] ⟨0x10, 0x00, 0x00, 0xFD, 0x24, 0x8000⟩ [(0x010, 0x11)])
    ⟨0x10, 0x00, 0x00, 0xFD, 0x27, 0x8002⟩ true 5 [(0x010, 0x10)] = true := by decide

/-- R203: `DCP $10` (95_test_vectors.md, section 2.5). -/
theorem test_dcpZp_second : becomes (start .halt [0xC7, 0x10] ⟨0xFF, 0x00, 0x00, 0xFD, 0x24, 0x8000⟩ [(0x010, 0x00)])
    ⟨0xFF, 0x00, 0x00, 0xFD, 0x27, 0x8002⟩ true 5 [(0x010, 0xFF)] = true := by decide

/-- R204: `ISB $10 (C=1)` (95_test_vectors.md, section 2.5). -/
theorem test_isbZp : becomes (start .halt [0xE7, 0x10] ⟨0x10, 0x00, 0x00, 0xFD, 0x25, 0x8000⟩ [(0x010, 0x0F)])
    ⟨0x00, 0x00, 0x00, 0xFD, 0x27, 0x8002⟩ true 5 [(0x010, 0x10)] = true := by decide

/-- R204: `ISB $10 (C=1)` (95_test_vectors.md, section 2.5). -/
theorem test_isbZp_second : becomes (start .halt [0xE7, 0x10] ⟨0x05, 0x00, 0x00, 0xFD, 0x25, 0x8000⟩ [(0x010, 0xFF)])
    ⟨0x05, 0x00, 0x00, 0xFD, 0x25, 0x8002⟩ true 5 [(0x010, 0x00)] = true := by decide

/-- R205: `SLO $10` (95_test_vectors.md, section 2.5). -/
theorem test_sloZp : becomes (start .halt [0x07, 0x10] ⟨0x01, 0x00, 0x00, 0xFD, 0x24, 0x8000⟩ [(0x010, 0x41)])
    ⟨0x83, 0x00, 0x00, 0xFD, 0xA4, 0x8002⟩ true 5 [(0x010, 0x82)] = true := by decide

/-- R205: `SLO $10` (95_test_vectors.md, section 2.5). -/
theorem test_sloZp_second : becomes (start .halt [0x07, 0x10] ⟨0x00, 0x00, 0x00, 0xFD, 0x24, 0x8000⟩ [(0x010, 0x80)])
    ⟨0x00, 0x00, 0x00, 0xFD, 0x27, 0x8002⟩ true 5 [(0x010, 0x00)] = true := by decide

/-- R206: `RLA $10 (C=1)` (95_test_vectors.md, section 2.5). -/
theorem test_rlaZp : becomes (start .halt [0x27, 0x10] ⟨0xFF, 0x00, 0x00, 0xFD, 0x25, 0x8000⟩ [(0x010, 0x80)])
    ⟨0x01, 0x00, 0x00, 0xFD, 0x25, 0x8002⟩ true 5 [(0x010, 0x01)] = true := by decide

/-- R207: `SRE $10` (95_test_vectors.md, section 2.5). -/
theorem test_sreZp : becomes (start .halt [0x47, 0x10] ⟨0x0F, 0x00, 0x00, 0xFD, 0x24, 0x8000⟩ [(0x010, 0x1F)])
    ⟨0x00, 0x00, 0x00, 0xFD, 0x27, 0x8002⟩ true 5 [(0x010, 0x0F)] = true := by decide

/-- R208: `RRA $10 (C=0)` (95_test_vectors.md, section 2.5). -/
theorem test_rraZp : becomes (start .halt [0x67, 0x10] ⟨0x10, 0x00, 0x00, 0xFD, 0x24, 0x8000⟩ [(0x010, 0x03)])
    ⟨0x12, 0x00, 0x00, 0xFD, 0x24, 0x8002⟩ true 5 [(0x010, 0x01)] = true := by decide

/-- R203: `DCP $02F0,Y (aby, no penalty)` (95_test_vectors.md, section 2.5). -/
theorem test_dcpAby : becomes (start .halt [0xDB, 0xF0, 0x02] ⟨0x00, 0x00, 0x20, 0xFD, 0x24, 0x8000⟩ [(0x310, 0x01)])
    ⟨0x00, 0x00, 0x20, 0xFD, 0x27, 0x8003⟩ true 7 [(0x310, 0x00)] = true := by decide

/-- R209: `SBC #$F0 (0xEB, C=1)` (95_test_vectors.md, section 2.5). -/
theorem test_sbcImmEB : becomes (start .halt [0xEB, 0xF0] ⟨0x50, 0x00, 0x00, 0xFD, 0x25, 0x8000⟩ [])
    ⟨0x60, 0x00, 0x00, 0xFD, 0x24, 0x8002⟩ true 2 [] = true := by decide

/-! ### Faults (section 2.6): the registers are those at the moment of the fault (60_exceptions.md R217) -/

/-- The registers of a fault in the operand access of a three-byte instruction at 0x8000. -/
def regsNext (a : Byte) : Regs := ⟨a, 0x00, 0x00, 0xFD, 0x24, 0x8003⟩

/-- R90: `0x02`: the fault precedes any effect, PC is still at the opcode. -/
theorem test_illegal02 : faults (start .halt [0x02] regs0 []) (.illegalOpcode 0x8000 0x02 regs0) = true := by decide

/-- R90: `0x8B 0x00`: no operand byte is read. -/
theorem test_illegal8B : faults (start .halt [0x8B, 0x00] regs0 []) (.illegalOpcode 0x8000 0x8B regs0) = true := by decide

/-- R52: `STA $8000` with A = 1. -/
theorem test_rom_write : faults (start .halt [0x8D, 0x00, 0x80] { regs0 with a := 0x01 } [])
    (.romWrite 0x8000 0x8000 0x01 (regsNext 0x01)) = true := by decide

/-- R139: `INC $8000`: the read of its own opcode byte completes, the write faults. -/
theorem test_rom_modify : faults (start .halt [0xEE, 0x00, 0x80] regs0 []) (.romWrite 0x8000 0x8000 0xEF (regsNext 0x00)) = true := by
  decide

/-- R261: `LDA $3FF5`, a mirror of 0x2005. -/
theorem test_write_only_read : faults (start .halt [0xAD, 0xF5, 0x3F] regs0 []) (.writeOnlyRead 0x8000 0x3FF5 (regsNext 0x00)) = true := by
  decide

/-- R262: `STA $2002`. -/
theorem test_read_only_write : faults (start .halt [0x8D, 0x02, 0x20] regs0 []) (.readOnlyWrite 0x8000 0x2002 0x00 (regsNext 0x00)) = true := by
  decide

/-- R259: `STA $2007` with `v` = 0. -/
theorem test_chr_write : faults (start .halt [0x8D, 0x07, 0x20] regs0 []) (.chrWrite 0x8000 0x2007 0x00 0x0000 (regsNext 0x00)) = true := by
  decide

/-- R47: `STA $4020`. -/
theorem test_unmapped : faults (start .halt [0x8D, 0x20, 0x40] regs0 []) (.unmappedAccess 0x8000 0x4020 (some 0x00) (regsNext 0x00)) = true := by
  decide

/-- R47: the fetch from 0x6000, where PC is `pc0`. -/
theorem test_unmapped_fetch : faults { start .halt [] regs0 [] with pc := 0x6000 }
    (.unmappedAccess 0x6000 0x6000 none { regs0 with pc := 0x6000 }) = true := by decide

/-- R54: `STA $4014` with A = 0x40 faults at 0x4014 itself. -/
theorem test_dma_fault : faults (start .halt [0x8D, 0x14, 0x40] { regs0 with a := 0x40 } [])
    (.writeOnlyRead 0x8000 0x4014 (regsNext 0x40)) = true := by decide

/-! ### PPU ports (section 2.7) -/

/-- PV1: horizontal mirroring, increment 1. -/
theorem test_pv1 : gives [(0x2006, some 0x21), (0x2006, some 0x08), (0x2007, some 0x55), (0x2007, some 0x66)] (withPpu id) [] (fun s =>
    Memory.read .vram s.ppu.vram 0x108 == 0x55 && Memory.read .vram s.ppu.vram 0x109 == 0x66 && s.ppu.v == 0x210A && s.ppu.addrFirst)
    = true := by decide

/-- PV2: increment 32. -/
theorem test_pv2 : gives [(0x2006, some 0x20), (0x2006, some 0x00), (0x2007, some 0x01), (0x2007, some 0x02)]
    (withPpu fun u => { u with ctrl := 0x04 }) [] (fun s =>
    Memory.read .vram s.ppu.vram 0x000 == 0x01 && Memory.read .vram s.ppu.vram 0x020 == 0x02 && s.ppu.v == 0x2040) = true := by decide

/-- PV3: the VRAM address wraps at 14 bits. -/
theorem test_pv3 : gives [(0x2006, some 0x3F), (0x2006, some 0xFF), (0x2007, some 0x0D)] (withPpu id) [] (fun s =>
    Memory.read .palette s.ppu.palette 0x1F == 0x0D && s.ppu.v == 0x0000) = true := by decide

/-- PV4: the first write to 0x2006 takes effect at once. -/
theorem test_pv4 : gives [(0x2006, some 0x7F)] (withPpu id) [] (fun s => s.ppu.v == 0x3F00 && !s.ppu.addrFirst) = true := by decide

/-- PV5: palette index 0x10 aliases 0x00. -/
theorem test_pv5 : gives [(0x2006, some 0x3F), (0x2006, some 0x10), (0x2007, some 0x2A)] (withPpu id) [] (fun s =>
    Memory.read .palette s.ppu.palette 0x00 == 0x2A && s.ppu.v == 0x3F11) = true := by decide

/-- PV7 and PV8: the mirroring function in both settings. -/
theorem test_pv7_pv8 :
    [0x2000, 0x2400, 0x2800, 0x2C00, 0x3000, 0x3EFF].map (ntIndex .horizontal) = [0x000, 0x000, 0x400, 0x400, 0x000, 0x6FF] ∧
    [0x2000, 0x2400, 0x2800, 0x2C00, 0x3000, 0x3EFF].map (ntIndex .vertical) = [0x000, 0x400, 0x000, 0x400, 0x000, 0x6FF] := by decide

/-- PV9: unbuffered reads of 0x2007. -/
theorem test_pv9 : gives [(0x2006, some 0x20), (0x2006, some 0x05), (0x2007, none), (0x2007, none)]
    (withPpu fun u => { u with vram := [(0x005, 0x77), (0x006, 0x88)] }) [0x77, 0x88] (fun s => s.ppu.v == 0x2007) = true := by decide

/-- PV10: buffered reads of 0x2007. -/
theorem test_pv10 : gives [(0x2006, some 0x20), (0x2006, some 0x05), (0x2007, none), (0x2007, none)]
    { withPpu (fun u => { u with vram := [(0x005, 0x77), (0x006, 0x88)] }) with params := ⟨.halt, true⟩ } [0x00, 0x77]
    (fun s => s.ppu.readBuffer == 0x88) = true := by decide

/-- PV12: the status read clears vblank and both latches. -/
theorem test_pv12 : gives [(0x2002, none), (0x2002, none)]
    (withPpu fun u => { u with status := 0xC0, addrFirst := false, scrollFirst := false }) [0xC0, 0x40]
    (fun s => s.ppu.addrFirst && s.ppu.scrollFirst && s.ppu.status == 0x40) = true := by decide

/-- PV13: the two latches are independent. -/
theorem test_pv13 : gives [(0x2005, some 0x10), (0x2006, some 0x21), (0x2005, some 0x20)] (withPpu id) [] (fun s =>
    s.ppu.scrollX == 0x10 && s.ppu.scrollY == 0x20 && s.ppu.v == 0x2100 && !s.ppu.addrFirst) = true := by decide

/-- PV14: OAM writes wrap. -/
theorem test_pv14 : gives [(0x2003, some 0xFE), (0x2004, some 0x11), (0x2004, some 0x22), (0x2004, some 0x33)] (withPpu id) []
    (fun s => s.ppu.oam == [(0x00, 0x33), (0xFE, 0x11), (0xFF, 0x22)] && s.ppu.oamAddr == 0x01) = true := by decide

/-- PV18: the NMI raised by a write to 0x2000 during vblank, once. -/
theorem test_pv18 :
    (ppuWriteControl 0x80 { Ppu.reset with status := 0x80 }).nmiPending = true ∧
    (ppuWriteControl 0x80 { Ppu.reset with status := 0x80, ctrl := 0x80 }).nmiPending = false ∧
    (ppuWriteControl 0x80 Ppu.reset).nmiPending = false := by decide

/-- PV20, its last call: scanline 241 is entered on the dot that completes scanline 240. -/
theorem test_pv20 :
    let u := ppuAdvance 1 { Ppu.reset with oam := [(0, 0), (3, 0)], ctrl := 0x80, scanline := 240, dot := 340 }
    u.scanline = 241 ∧ u.dot = 0 ∧ u.status = 0x80 ∧ u.nmiPending = true := by decide

/-- PV22: the frame end. -/
theorem test_pv22 :
    let u := ppuAdvance 6 { Ppu.reset with oam := [(0, 0), (3, 0)], scanline := 261, dot := 335, status := 0xC0, nmiPending := true }
    u.scanline = 0 ∧ u.dot = 0 ∧ u.status = 0x00 ∧ u.nmiPending = false := by decide

/-- PV23, PV24, PV25: sprite-0 hit. -/
theorem test_pv23_pv25 :
    (ppuAdvance 18 { Ppu.reset with oam := [(0, 30), (3, 5)], mask := 0x18, scanline := 30, dot := 330 }).status = 0x40 ∧
    (ppuAdvance 18 { Ppu.reset with oam := [(0, 30), (3, 8)], mask := 0x18, scanline := 30, dot := 330 }).status = 0x00 ∧
    (ppuAdvance 18 { Ppu.reset with oam := [(0, 30), (3, 0)], mask := 0x08, scanline := 30, dot := 330 }).status = 0x00 := by decide

/-! ### Joypads (section 2.8) -/

/-- JV1: strobed reads repeat bit 0; serial reads shift and then give 1. -/
theorem test_jv1 : gives [(0x4016, some 0x01), (0x4016, none), (0x4016, none), (0x4016, some 0x00), (0x4016, none), (0x4016, none),
      (0x4016, none), (0x4016, none), (0x4016, none), (0x4016, none), (0x4016, none), (0x4016, none), (0x4016, none), (0x4016, none)]
    { start .halt [] regs0 [] with pad1 := ⟨0x85, false, 0⟩ } [1, 1, 1, 0, 1, 0, 0, 0, 0, 1, 1, 1] (fun _ => true) = true := by decide

/-- JV2: one strobe reaches both pads, each with its own index. -/
theorem test_jv2 : gives [(0x4016, some 0x01), (0x4016, some 0x00), (0x4017, none), (0x4017, none), (0x4017, none), (0x4016, none)]
    { start .halt [] regs0 [] with pad2 := ⟨0x02, false, 0⟩ } [0, 1, 0, 0] (fun _ => true) = true := by decide

/-! ### Cartridge headers (section 2.9) -/

/-- The header is accepted with these choices. -/
def accepts (bytes4to7 : List Byte) (fileLength : Nat) (h : Header) : Bool :=
  match acceptHeader ([0x4E, 0x45, 0x53, 0x1A] ++ bytes4to7) fileLength with
  | .ok g => decide (g = h)
  | .error _ => false

/-- The header is refused for this reason. -/
def refuses (bytes : List Byte) (fileLength : Nat) (e : CartridgeError) : Bool :=
  match acceptHeader bytes fileLength with
  | .ok _ => false
  | .error g => decide (g = e)

/-- CV1, CV2, CV3, CV12: accepted. -/
theorem test_headers_accepted :
    accepts [1, 1, 0x00, 0x00] 24592 ⟨.one, .horizontal, false⟩ = true ∧ accepts [2, 1, 0x01, 0x00] 40976 ⟨.two, .vertical, false⟩ = true ∧
    accepts [1, 1, 0x04, 0x00] 25104 ⟨.one, .horizontal, true⟩ = true ∧
      accepts [1, 1, 0x02, 0x00] 24592 ⟨.one, .horizontal, false⟩ = true := by
  decide

/-- CV4 to CV11: refused. -/
theorem test_headers_refused :
    refuses [0x4E, 0x45, 0x53, 0x1A, 1, 1, 0x10, 0x00] 24592 .unsupportedMapper = true ∧
    refuses [0x4E, 0x45, 0x53, 0x1A, 1, 1, 0x00, 0x10] 24592 .unsupportedMapper = true ∧
    refuses [0x4E, 0x45, 0x53, 0x1A, 1, 1, 0x08, 0x00] 24592 .fourScreen = true ∧
    refuses [0x4E, 0x45, 0x53, 0x1A, 1, 1, 0x00, 0x08] 24592 .unsupportedVersion = true ∧
    refuses [0x4E, 0x45, 0x53, 0x1A, 1, 0, 0x00, 0x00] 24592 .chrBankCount = true ∧
    refuses [0x4E, 0x45, 0x53, 0x1A, 3, 1, 0x00, 0x00] 24592 .prgBankCount = true ∧
    refuses [0x4E, 0x45, 0x53, 0x00, 1, 1, 0x00, 0x00] 24592 .badSignature = true ∧
    refuses [0x4E, 0x45, 0x53, 0x1A, 1, 1, 0x00, 0x00] 16400 .fileTooShort = true := by
  decide

/-! ### WellFormed and the decoder -/

/-- The one check of WellFormed refuses an ill-formed term: the byte 0x02 has no descriptor (30_encoding.md R90). -/
theorem test_wellFormed_refuses : Instr.wellFormed .illegal02 = false := by decide

/-- It accepts an executed instruction, and an operand at both ends of its range. -/
theorem test_wellFormed_accepts : Instr.wellFormed (.ldaAbx 0x0000) = true ∧ Instr.wellFormed (.ldaAbx 0xFFFF) = true := by decide

/-- The decoder rejects by name: no byte, and an operand cut short. -/
theorem test_decode_rejects : decode [] = .error .noOpcode ∧ decode [0xBD, 0x34] = .error .truncated ∧
      decode [0xA9] = .error .truncated := by
  refine ⟨?_, ?_, ?_⟩ <;> rfl

/-- `JMP ($02FF)`: 0110 1100, then the low byte, then the high byte (30_encoding.md R86). -/
theorem test_decode_jmpInd : decode [0b01101100#8, 0b11111111#8, 0b00000010#8] = .ok (.jmpInd 0x02FF, []) := rfl

/-- The host's word of `LDA $1234,X`: the opcode byte is bits 7..0, the operand word bits 23..8. -/
theorem test_decodeTableWord : decodeTableWord 24 0x1234BD = some (.ldaAbx 0x1234) ∧ decodeTableWord 8 0xA9 = some (.ldaImm 0) := by
  refine ⟨?_, ?_⟩ <;> rfl

/-- A word placed for the host is what the next step runs. -/
theorem test_withFetchWord : answers (step ((start .halt [] regs0 []).withFetchWord 16 0x50A9)) (fun t => t.a == 0x50 && t.pc == 0x8002) = true := by
  decide

/-! ### The host frame and the render pass (60_exceptions.md R275-R278, by hand from the rules) -/

/-- The tick that raises the NMI runs the host frame once: two buttons bytes drawn, the NMI left pending. -/
theorem test_host_frame :
    let t := tick 1 { withPpu (fun u => { u with oam := [(0, 0), (3, 0)], ctrl := 0x80, scanline := 240, dot := 338 }) with cycles := 5 }
    t.cycles = 6 ∧ t.draws = 2 ∧ t.ppu.nmiPending = true ∧ t.ppu.scanline = 241 ∧ t.ppu.dot = 0 := by decide

/-- Tile 0, bitplane bits 0 and 1 at its first pixel: colour 1 of palette 0, entry 0x05 (R276). -/
theorem test_background_pixel :
    backgroundPixel { banks := .one, prg := [], chr := [(0, 0x80), (8, 0x00)], mirroring := .horizontal }
      { Ppu.reset with vram := [(0, 0), (0x3C0, 0)], palette := [(1, 0x05)] } 0 0 = some (Config.systemPalette 0x05) := rfl

/-- Sprite 0 at (10, 20), tile 2 flipped horizontally: its leftmost column, colour 3 of sprite palette 0, is drawn at x = 17 (R277). -/
theorem test_sprite_pixel :
    let c : Cartridge := { banks := .one, prg := [], chr := [(32, 0x80), (40, 0x80)], mirroring := .horizontal }
    let u := { Ppu.reset with oam := [(0, 20), (1, 2), (2, 0x40), (3, 10)], palette := [(0x13, 0x21)] }
    spritePixel c u 17 20 0 = some (Config.systemPalette 0x21) ∧ spritePixel c u 10 20 0 = none ∧ spritePixel c u 18 20 0 = none :=
  ⟨rfl, rfl, rfl⟩

/-! ### Witnesses: for each statement with hypotheses, values that meet them, each clause at a boundary of its range

`w` is a running state: code `NOP` at 0x8000, `ram[0x10]` and the page 0x01 cells below SP given. -/

/-- A running state in the mode `Vector`. -/
def w : State := start .vector [0xEA] regs0 [(0x010, 0x80), (0x1FC, 0x02), (0x1FD, 0x80), (0x1FE, 0x24), (0x1FF, 0x00)]

/-- `w` with this VRAM address. -/
def wv (v : Word) : State := { w with ppu := { w.ppu with v := v } }

theorem witness_DecodeOfEncode : Instr.wellFormed (.ldaAbx 0xFFFF) = true := by decide

theorem witness_EncodeOfDecode : decode [0x6C, 0xFF, 0x02, 0xEA] = .ok (.jmpInd 0x02FF, [0xEA]) := rfl

theorem witness_InstructionLengths : descriptor .brk = some ⟨.brk, .imp, 7, false⟩ ∧ descriptor .aslAcc = some ⟨.asl, .acc, 2, false⟩ ∧
    descriptor (.jsr 0xFFFF) = some ⟨.jsr, .mem (.abs 0xFFFF), 6, false⟩ ∧ descriptor (.beq 0xFF) = some ⟨.beq, .rel 0xFF, 2, false⟩ := by
  decide

/-- A read with the penalty that crosses a page at the top of the address space (0xFFFF + X = 0x0000). -/
theorem witness_CycleTable_crossing :
    descriptor (.ldaAbx 0xFFFF) = some ⟨.lda, .mem (.abx 0xFFFF), 4, true⟩ ∧
    Mode.crossed (.mem (.abx 0xFFFF)) { w with x := 1 } = true ∧ ∃ t, exec (.ldaAbx 0xFFFF) { w with x := 1 } = .next t :=
  ⟨rfl, by decide, _, rfl⟩

/-- BNE, taken as Z is 0 in `w`: to 0x7F82 in another page, to 0x8081 in the page of `next`; BEQ, not taken (R124). -/
theorem witness_CycleTable_branches :
    descriptor (.bne 0x80) = some ⟨.bne, .rel 0x80, 2, false⟩ ∧ (∃ t, exec (.bne 0x80) w = .next t) ∧
    takenCycles ⟨.bne, .rel 0x80, 2, false⟩ w = 2 ∧ takenCycles ⟨.bne, .rel 0x7F, 2, false⟩ w = 1 ∧
    descriptor (.beq 0x80) = some ⟨.beq, .rel 0x80, 2, false⟩ ∧ (∃ t, exec (.beq 0x80) w = .next t) ∧
    takenCycles ⟨.beq, .rel 0x80, 2, false⟩ w = 0 :=
  ⟨rfl, ⟨_, rfl⟩, by decide, by decide, rfl, ⟨_, rfl⟩, by decide⟩

theorem witness_RefusedOpcodes : descriptor .illegalBB = none ∧ decode [0xBB] = .ok (.illegalBB, []) ∧
    (start .halt [0xBB] regs0 []).enabled ∧
    ∃ s1, busRead 0x8000 0x8000 (pollNmi (start .halt [0xBB] regs0 [])) = .ok 0xBB s1 ∧ 0xBB ∈ refusedBytes :=
  ⟨rfl, rfl, by decide, _, rfl, by decide⟩

/-- The six clauses of the step statement: a fetch that faults, and 1, 2 and 3 byte instructions with the operand fetch that faults at
the end of RAM (0x1FFF and then the write-only port 0x2000). -/
theorem witness_StepRunsDecoded_fetch_fault :
    { w with pc := 0x4020 }.enabled ∧ ∃ f, busRead 0x4020 0x4020 (pollNmi { w with pc := 0x4020 }) = .fault f := ⟨by decide, _, rfl⟩

theorem witness_StepRunsDecoded_one : w.enabled ∧ decode [0xEA] = .ok (.nop, []) ∧ ∃ s1, busRead 0x8000 0x8000 (pollNmi w) = .ok 0xEA s1 :=
  ⟨by decide, rfl, _, rfl⟩

/-- At the end of RAM: `LDA #` whose operand byte is at 0x2000. -/
def wLast : State := { start .vector [] regs0 [(0x7FF, 0xA9)] with pc := 0x1FFF }

theorem witness_StepRunsDecoded_first_operand_fault : wLast.enabled ∧ decode [0xA9] = .error .truncated ∧
    ∃ s1 f, busRead 0x1FFF 0x1FFF (pollNmi wLast) = .ok 0xA9 s1 ∧ busRead 0x1FFF (0x1FFF + 1) s1 = .fault f :=
  ⟨by decide, rfl, _, _, rfl, rfl⟩

theorem witness_StepRunsDecoded_two : (start .halt [0xA9, 0x50] regs0 []).enabled ∧ decode [0xA9, 0x50] = .ok (.ldaImm 0x50, []) ∧
    ∃ s1 s2, busRead 0x8000 0x8000 (pollNmi (start .halt [0xA9, 0x50] regs0 [])) = .ok 0xA9 s1 ∧
      busRead 0x8000 (0x8000 + 1) s1 = .ok 0x50 s2 := ⟨by decide, rfl, _, _, rfl, rfl⟩

/-- At the end of RAM: `LDA abs` whose second operand byte is at 0x2000. -/
def wLastTwo : State := { start .vector [] regs0 [(0x7FE, 0xAD), (0x7FF, 0x00)] with pc := 0x1FFE }

theorem witness_StepRunsDecoded_second_operand_fault : wLastTwo.enabled ∧ decode [0xAD, 0x00] = .error .truncated ∧
    ∃ s1 s2 f, busRead 0x1FFE 0x1FFE (pollNmi wLastTwo) = .ok 0xAD s1 ∧ busRead 0x1FFE (0x1FFE + 1) s1 = .ok 0x00 s2 ∧
      busRead 0x1FFE (0x1FFE + 2) s2 = .fault f := ⟨by decide, rfl, _, _, _, rfl, rfl, rfl⟩

theorem witness_StepRunsDecoded_three :
    let s := start .halt [0xAD, 0xFF, 0x1F] regs0 []
    s.enabled ∧ decode [0xAD, 0xFF, 0x1F] = .ok (.ldaAbs 0x1FFF, []) ∧
    ∃ s1 s2 s3, busRead 0x8000 0x8000 (pollNmi s) = .ok 0xAD s1 ∧ busRead 0x8000 (0x8000 + 1) s1 = .ok 0xFF s2 ∧
      busRead 0x8000 (0x8000 + 2) s2 = .ok 0x1F s3 := ⟨by decide, rfl, _, _, _, rfl, rfl, rfl⟩

/-- A pending NMI, its handler a NOP at 0x9000. -/
def wNmi : State :=
  let s := start .vector [0xEA] { regs0 with pc := 0x9000 } []
  { s with pc := 0x8009, ppu := { s.ppu with nmiPending := true } }

/-- The NMI is serviced and the handler's first instruction runs in the same step (60_exceptions.md R222, R223; program P6). -/
theorem test_nmi_step : becomes wNmi ⟨0x00, 0x00, 0x00, 0xFA, 0x24, 0x9001⟩ true 4 [(0x1FD, 0x80), (0x1FC, 0x09), (0x1FB, 0x24)] = true := by
  decide

theorem witness_StepRunsDecoded_nmi : wNmi.enabled ∧ ∃ s1, busRead (pollNmi wNmi).pc (pollNmi wNmi).pc (pollNmi wNmi) = .ok 0xEA s1 :=
  ⟨by decide, _, rfl⟩

theorem witness_RunEnded : { w with running := false }.fault = none ∧ { w with running := false }.running = false ∧
    { w with fault := some (.illegalOpcode 0x8000 0x02 regs0) }.fault = some (.illegalOpcode 0x8000 0x02 regs0) := by decide

theorem witness_HostStop : w.fault = none ∧ w.running = true := by decide

theorem witness_NmiService : w.ppu.nmiPending = false ∧ wNmi.ppu.nmiPending = true := by decide

theorem witness_BrkPushesAndVectors : w.params.brkMode = .vector ∧ (start .halt [] regs0 []).params.brkMode = .halt := by decide

/-- Each branch condition is met and not met: P with all flags clear but I, and with all set. -/
theorem witness_Branches : ∀ f ∈ [Flag.c, .z, .n, .v], getFlag f 0x24 = false ∧ getFlag f 0xFF = true := by decide

theorem witness_JmpTargets_first_fault : (0x2001 : Word).toNat = (0x2000 : Word).toNat / 256 * 256 + ((0x2000 : Word).toNat % 256 + 1) % 256 ∧
    ∃ f, busRead w.pc 0x2000 { w with pc := w.pc + 3 } = .fault f := ⟨by decide, _, rfl⟩

theorem witness_JmpTargets_second_fault : (0x2003 : Word).toNat = (0x2002 : Word).toNat / 256 * 256 + ((0x2002 : Word).toNat % 256 + 1) % 256 ∧
    ∃ lo s1 f, busRead w.pc 0x2002 { w with pc := w.pc + 3 } = .ok lo s1 ∧ busRead w.pc 0x2003 s1 = .fault f :=
  ⟨by decide, _, _, _, rfl, rfl⟩

theorem witness_JmpTargets_completes : ([(0x1FFF, 0x1F00), (0x02FF, 0x0200), (0xFFFF, 0xFF00), (0x8000, 0x8001)] : List (Word × Word)).all (fun c => decide (c.2.toNat = c.1.toNat / 256 * 256 + (c.1.toNat % 256 + 1) % 256 ∧ readable c.1 = true ∧ readable c.2 = true)) = true := by decide

/-! Operand forms: an instruction and a mode of each entry of the lists (Loads to SreRra). -/

theorem witness_Loads_forms : ∀ c ∈ ([
      (⟨0xA9, .imm, 2, false⟩, .ldaImm 0xFF, .imm 0xFF), (⟨0xA5, .zp, 3, false⟩, .ldaZp 0xFF, .mem (.zp 0xFF)),
      (⟨0xB5, .zpx, 4, false⟩, .ldaZpx 0xFF, .mem (.zpx 0xFF)), (⟨0xAD, .abs, 4, false⟩, .ldaAbs 0xFFFF, .mem (.abs 0xFFFF)),
      (⟨0xBD, .abx, 4, true⟩, .ldaAbx 0xFFFF, .mem (.abx 0xFFFF)), (⟨0xB9, .aby, 4, true⟩, .ldaAby 0xFFFF, .mem (.aby 0xFFFF)),
      (⟨0xA1, .izx, 6, false⟩, .ldaIzx 0xFF, .mem (.izx 0xFF)), (⟨0xB1, .izy, 5, true⟩, .ldaIzy 0xFF, .mem (.izy 0xFF)),
      (⟨0xA2, .imm, 2, false⟩, .ldxImm 0xFF, .imm 0xFF), (⟨0xA6, .zp, 3, false⟩, .ldxZp 0xFF, .mem (.zp 0xFF)),
      (⟨0xB6, .zpy, 4, false⟩, .ldxZpy 0xFF, .mem (.zpy 0xFF)), (⟨0xAE, .abs, 4, false⟩, .ldxAbs 0xFFFF, .mem (.abs 0xFFFF)),
      (⟨0xBE, .aby, 4, true⟩, .ldxAby 0xFFFF, .mem (.aby 0xFFFF)), (⟨0xA0, .imm, 2, false⟩, .ldyImm 0xFF, .imm 0xFF),
      (⟨0xA4, .zp, 3, false⟩, .ldyZp 0xFF, .mem (.zp 0xFF)), (⟨0xB4, .zpx, 4, false⟩, .ldyZpx 0xFF, .mem (.zpx 0xFF)),
      (⟨0xAC, .abs, 4, false⟩, .ldyAbs 0xFFFF, .mem (.abs 0xFFFF)), (⟨0xBC, .abx, 4, true⟩, .ldyAbx 0xFFFF, .mem (.abx 0xFFFF)),
      (⟨0xA7, .zp, 3, false⟩, .laxZp 0xFF, .mem (.zp 0xFF)), (⟨0xB7, .zpy, 4, false⟩, .laxZpy 0xFF, .mem (.zpy 0xFF)),
      (⟨0xAF, .abs, 4, false⟩, .laxAbs 0xFFFF, .mem (.abs 0xFFFF)), (⟨0xBF, .aby, 4, true⟩, .laxAby 0xFFFF, .mem (.aby 0xFFFF)),
      (⟨0xA3, .izx, 6, false⟩, .laxIzx 0xFF, .mem (.izx 0xFF)), (⟨0xB3, .izy, 5, true⟩, .laxIzy 0xFF, .mem (.izy 0xFF))] : List (Form × Instr × Mode)),
    c.1.encodes c.2.1 c.2.2 := by decide

theorem witness_Stores_forms : ∀ c ∈ ([
      (⟨0x85, .zp, 3, false⟩, .staZp 0xFF, .mem (.zp 0xFF)), (⟨0x95, .zpx, 4, false⟩, .staZpx 0xFF, .mem (.zpx 0xFF)),
      (⟨0x8D, .abs, 4, false⟩, .staAbs 0xFFFF, .mem (.abs 0xFFFF)), (⟨0x9D, .abx, 5, false⟩, .staAbx 0xFFFF, .mem (.abx 0xFFFF)),
      (⟨0x99, .aby, 5, false⟩, .staAby 0xFFFF, .mem (.aby 0xFFFF)), (⟨0x81, .izx, 6, false⟩, .staIzx 0xFF, .mem (.izx 0xFF)),
      (⟨0x91, .izy, 6, false⟩, .staIzy 0xFF, .mem (.izy 0xFF)), (⟨0x86, .zp, 3, false⟩, .stxZp 0xFF, .mem (.zp 0xFF)),
      (⟨0x96, .zpy, 4, false⟩, .stxZpy 0xFF, .mem (.zpy 0xFF)), (⟨0x8E, .abs, 4, false⟩, .stxAbs 0xFFFF, .mem (.abs 0xFFFF)),
      (⟨0x84, .zp, 3, false⟩, .styZp 0xFF, .mem (.zp 0xFF)), (⟨0x94, .zpx, 4, false⟩, .styZpx 0xFF, .mem (.zpx 0xFF)),
      (⟨0x8C, .abs, 4, false⟩, .styAbs 0xFFFF, .mem (.abs 0xFFFF)), (⟨0x87, .zp, 3, false⟩, .saxZp 0xFF, .mem (.zp 0xFF)),
      (⟨0x97, .zpy, 4, false⟩, .saxZpy 0xFF, .mem (.zpy 0xFF)), (⟨0x8F, .abs, 4, false⟩, .saxAbs 0xFFFF, .mem (.abs 0xFFFF)),
      (⟨0x83, .izx, 6, false⟩, .saxIzx 0xFF, .mem (.izx 0xFF))] : List (Form × Instr × Mode)),
    c.1.encodes c.2.1 c.2.2 := by decide

theorem witness_Nops_forms : ∀ c ∈ ([
      (⟨0x1A, .imp, 2, false⟩, .nop1A, .imp), (⟨0x3A, .imp, 2, false⟩, .nop3A, .imp), (⟨0x5A, .imp, 2, false⟩, .nop5A, .imp),
      (⟨0x7A, .imp, 2, false⟩, .nop7A, .imp), (⟨0xDA, .imp, 2, false⟩, .nopDA, .imp), (⟨0xFA, .imp, 2, false⟩, .nopFA, .imp),
      (⟨0x80, .imm, 2, false⟩, .nop80 0xFF, .imm 0xFF), (⟨0x82, .imm, 2, false⟩, .nop82 0xFF, .imm 0xFF),
      (⟨0x89, .imm, 2, false⟩, .nop89 0xFF, .imm 0xFF), (⟨0xC2, .imm, 2, false⟩, .nopC2 0xFF, .imm 0xFF),
      (⟨0xE2, .imm, 2, false⟩, .nopE2 0xFF, .imm 0xFF), (⟨0x04, .zp, 3, false⟩, .nop04 0xFF, .mem (.zp 0xFF)),
      (⟨0x44, .zp, 3, false⟩, .nop44 0xFF, .mem (.zp 0xFF)), (⟨0x64, .zp, 3, false⟩, .nop64 0xFF, .mem (.zp 0xFF)),
      (⟨0x14, .zpx, 4, false⟩, .nop14 0xFF, .mem (.zpx 0xFF)), (⟨0x34, .zpx, 4, false⟩, .nop34 0xFF, .mem (.zpx 0xFF)),
      (⟨0x54, .zpx, 4, false⟩, .nop54 0xFF, .mem (.zpx 0xFF)), (⟨0x74, .zpx, 4, false⟩, .nop74 0xFF, .mem (.zpx 0xFF)),
      (⟨0xD4, .zpx, 4, false⟩, .nopD4 0xFF, .mem (.zpx 0xFF)), (⟨0xF4, .zpx, 4, false⟩, .nopF4 0xFF, .mem (.zpx 0xFF)),
      (⟨0x0C, .abs, 4, false⟩, .nop0C 0xFFFF, .mem (.abs 0xFFFF)), (⟨0x1C, .abx, 4, true⟩, .nop1C 0xFFFF, .mem (.abx 0xFFFF)),
      (⟨0x3C, .abx, 4, true⟩, .nop3C 0xFFFF, .mem (.abx 0xFFFF)), (⟨0x5C, .abx, 4, true⟩, .nop5C 0xFFFF, .mem (.abx 0xFFFF)),
      (⟨0x7C, .abx, 4, true⟩, .nop7C 0xFFFF, .mem (.abx 0xFFFF)), (⟨0xDC, .abx, 4, true⟩, .nopDC 0xFFFF, .mem (.abx 0xFFFF)),
      (⟨0xFC, .abx, 4, true⟩, .nopFC 0xFFFF, .mem (.abx 0xFFFF))] : List (Form × Instr × Mode)),
    c.1.encodes c.2.1 c.2.2 := by decide

theorem witness_AdcResultAndFlags_forms : ∀ c ∈ ([
      (⟨0x69, .imm, 2, false⟩, .adcImm 0xFF, .imm 0xFF), (⟨0x65, .zp, 3, false⟩, .adcZp 0xFF, .mem (.zp 0xFF)),
      (⟨0x75, .zpx, 4, false⟩, .adcZpx 0xFF, .mem (.zpx 0xFF)), (⟨0x6D, .abs, 4, false⟩, .adcAbs 0xFFFF, .mem (.abs 0xFFFF)),
      (⟨0x7D, .abx, 4, true⟩, .adcAbx 0xFFFF, .mem (.abx 0xFFFF)), (⟨0x79, .aby, 4, true⟩, .adcAby 0xFFFF, .mem (.aby 0xFFFF)),
      (⟨0x61, .izx, 6, false⟩, .adcIzx 0xFF, .mem (.izx 0xFF)), (⟨0x71, .izy, 5, true⟩, .adcIzy 0xFF, .mem (.izy 0xFF))] : List (Form × Instr × Mode)),
    c.1.encodes c.2.1 c.2.2 := by decide

theorem witness_SbcResultAndFlags_forms : ∀ c ∈ ([
      (⟨0xE9, .imm, 2, false⟩, .sbcImm 0xFF, .imm 0xFF), (⟨0xE5, .zp, 3, false⟩, .sbcZp 0xFF, .mem (.zp 0xFF)),
      (⟨0xF5, .zpx, 4, false⟩, .sbcZpx 0xFF, .mem (.zpx 0xFF)), (⟨0xED, .abs, 4, false⟩, .sbcAbs 0xFFFF, .mem (.abs 0xFFFF)),
      (⟨0xFD, .abx, 4, true⟩, .sbcAbx 0xFFFF, .mem (.abx 0xFFFF)), (⟨0xF9, .aby, 4, true⟩, .sbcAby 0xFFFF, .mem (.aby 0xFFFF)),
      (⟨0xE1, .izx, 6, false⟩, .sbcIzx 0xFF, .mem (.izx 0xFF)), (⟨0xF1, .izy, 5, true⟩, .sbcIzy 0xFF, .mem (.izy 0xFF)),
      (⟨0xEB, .imm, 2, false⟩, .sbcImmEB 0xFF, .imm 0xFF)] : List (Form × Instr × Mode)),
    c.1.encodes c.2.1 c.2.2 := by decide

theorem witness_Logic_forms : ∀ c ∈ ([
      (⟨0x29, .imm, 2, false⟩, .andImm 0xFF, .imm 0xFF), (⟨0x25, .zp, 3, false⟩, .andZp 0xFF, .mem (.zp 0xFF)),
      (⟨0x35, .zpx, 4, false⟩, .andZpx 0xFF, .mem (.zpx 0xFF)), (⟨0x2D, .abs, 4, false⟩, .andAbs 0xFFFF, .mem (.abs 0xFFFF)),
      (⟨0x3D, .abx, 4, true⟩, .andAbx 0xFFFF, .mem (.abx 0xFFFF)), (⟨0x39, .aby, 4, true⟩, .andAby 0xFFFF, .mem (.aby 0xFFFF)),
      (⟨0x21, .izx, 6, false⟩, .andIzx 0xFF, .mem (.izx 0xFF)), (⟨0x31, .izy, 5, true⟩, .andIzy 0xFF, .mem (.izy 0xFF)),
      (⟨0x09, .imm, 2, false⟩, .oraImm 0xFF, .imm 0xFF), (⟨0x05, .zp, 3, false⟩, .oraZp 0xFF, .mem (.zp 0xFF)),
      (⟨0x15, .zpx, 4, false⟩, .oraZpx 0xFF, .mem (.zpx 0xFF)), (⟨0x0D, .abs, 4, false⟩, .oraAbs 0xFFFF, .mem (.abs 0xFFFF)),
      (⟨0x1D, .abx, 4, true⟩, .oraAbx 0xFFFF, .mem (.abx 0xFFFF)), (⟨0x19, .aby, 4, true⟩, .oraAby 0xFFFF, .mem (.aby 0xFFFF)),
      (⟨0x01, .izx, 6, false⟩, .oraIzx 0xFF, .mem (.izx 0xFF)), (⟨0x11, .izy, 5, true⟩, .oraIzy 0xFF, .mem (.izy 0xFF)),
      (⟨0x49, .imm, 2, false⟩, .eorImm 0xFF, .imm 0xFF), (⟨0x45, .zp, 3, false⟩, .eorZp 0xFF, .mem (.zp 0xFF)),
      (⟨0x55, .zpx, 4, false⟩, .eorZpx 0xFF, .mem (.zpx 0xFF)), (⟨0x4D, .abs, 4, false⟩, .eorAbs 0xFFFF, .mem (.abs 0xFFFF)),
      (⟨0x5D, .abx, 4, true⟩, .eorAbx 0xFFFF, .mem (.abx 0xFFFF)), (⟨0x59, .aby, 4, true⟩, .eorAby 0xFFFF, .mem (.aby 0xFFFF)),
      (⟨0x41, .izx, 6, false⟩, .eorIzx 0xFF, .mem (.izx 0xFF)), (⟨0x51, .izy, 5, true⟩, .eorIzy 0xFF, .mem (.izy 0xFF))] : List (Form × Instr × Mode)),
    c.1.encodes c.2.1 c.2.2 := by decide

theorem witness_BitResultAndFlags_forms : ∀ c ∈ ([
      (⟨0x24, .zp, 3, false⟩, .bitZp 0xFF, .mem (.zp 0xFF)), (⟨0x2C, .abs, 4, false⟩, .bitAbs 0xFFFF, .mem (.abs 0xFFFF))] : List (Form × Instr × Mode)),
    c.1.encodes c.2.1 c.2.2 := by decide

theorem witness_Compare_forms : ∀ c ∈ ([
      (⟨0xC9, .imm, 2, false⟩, .cmpImm 0xFF, .imm 0xFF), (⟨0xC5, .zp, 3, false⟩, .cmpZp 0xFF, .mem (.zp 0xFF)),
      (⟨0xD5, .zpx, 4, false⟩, .cmpZpx 0xFF, .mem (.zpx 0xFF)), (⟨0xCD, .abs, 4, false⟩, .cmpAbs 0xFFFF, .mem (.abs 0xFFFF)),
      (⟨0xDD, .abx, 4, true⟩, .cmpAbx 0xFFFF, .mem (.abx 0xFFFF)), (⟨0xD9, .aby, 4, true⟩, .cmpAby 0xFFFF, .mem (.aby 0xFFFF)),
      (⟨0xC1, .izx, 6, false⟩, .cmpIzx 0xFF, .mem (.izx 0xFF)), (⟨0xD1, .izy, 5, true⟩, .cmpIzy 0xFF, .mem (.izy 0xFF)),
      (⟨0xE0, .imm, 2, false⟩, .cpxImm 0xFF, .imm 0xFF), (⟨0xE4, .zp, 3, false⟩, .cpxZp 0xFF, .mem (.zp 0xFF)),
      (⟨0xEC, .abs, 4, false⟩, .cpxAbs 0xFFFF, .mem (.abs 0xFFFF)), (⟨0xC0, .imm, 2, false⟩, .cpyImm 0xFF, .imm 0xFF),
      (⟨0xC4, .zp, 3, false⟩, .cpyZp 0xFF, .mem (.zp 0xFF)), (⟨0xCC, .abs, 4, false⟩, .cpyAbs 0xFFFF, .mem (.abs 0xFFFF))] : List (Form × Instr × Mode)),
    c.1.encodes c.2.1 c.2.2 := by decide

theorem witness_IncDecMemory_forms : ∀ c ∈ ([
      (⟨0xE6, .zp, 5, false⟩, .incZp 0xFF, .mem (.zp 0xFF)), (⟨0xF6, .zpx, 6, false⟩, .incZpx 0xFF, .mem (.zpx 0xFF)),
      (⟨0xEE, .abs, 6, false⟩, .incAbs 0xFFFF, .mem (.abs 0xFFFF)), (⟨0xFE, .abx, 7, false⟩, .incAbx 0xFFFF, .mem (.abx 0xFFFF)),
      (⟨0xC6, .zp, 5, false⟩, .decZp 0xFF, .mem (.zp 0xFF)), (⟨0xD6, .zpx, 6, false⟩, .decZpx 0xFF, .mem (.zpx 0xFF)),
      (⟨0xCE, .abs, 6, false⟩, .decAbs 0xFFFF, .mem (.abs 0xFFFF)), (⟨0xDE, .abx, 7, false⟩, .decAbx 0xFFFF, .mem (.abx 0xFFFF))] : List (Form × Instr × Mode)),
    c.1.encodes c.2.1 c.2.2 := by decide

theorem witness_Shifts_forms : ∀ c ∈ ([
      (⟨0x06, .zp, 5, false⟩, .aslZp 0xFF, .mem (.zp 0xFF)), (⟨0x16, .zpx, 6, false⟩, .aslZpx 0xFF, .mem (.zpx 0xFF)),
      (⟨0x0E, .abs, 6, false⟩, .aslAbs 0xFFFF, .mem (.abs 0xFFFF)), (⟨0x1E, .abx, 7, false⟩, .aslAbx 0xFFFF, .mem (.abx 0xFFFF)),
      (⟨0x46, .zp, 5, false⟩, .lsrZp 0xFF, .mem (.zp 0xFF)), (⟨0x56, .zpx, 6, false⟩, .lsrZpx 0xFF, .mem (.zpx 0xFF)),
      (⟨0x4E, .abs, 6, false⟩, .lsrAbs 0xFFFF, .mem (.abs 0xFFFF)), (⟨0x5E, .abx, 7, false⟩, .lsrAbx 0xFFFF, .mem (.abx 0xFFFF)),
      (⟨0x26, .zp, 5, false⟩, .rolZp 0xFF, .mem (.zp 0xFF)), (⟨0x36, .zpx, 6, false⟩, .rolZpx 0xFF, .mem (.zpx 0xFF)),
      (⟨0x2E, .abs, 6, false⟩, .rolAbs 0xFFFF, .mem (.abs 0xFFFF)), (⟨0x3E, .abx, 7, false⟩, .rolAbx 0xFFFF, .mem (.abx 0xFFFF)),
      (⟨0x66, .zp, 5, false⟩, .rorZp 0xFF, .mem (.zp 0xFF)), (⟨0x76, .zpx, 6, false⟩, .rorZpx 0xFF, .mem (.zpx 0xFF)),
      (⟨0x6E, .abs, 6, false⟩, .rorAbs 0xFFFF, .mem (.abs 0xFFFF)), (⟨0x7E, .abx, 7, false⟩, .rorAbx 0xFFFF, .mem (.abx 0xFFFF))] : List (Form × Instr × Mode)),
    c.1.encodes c.2.1 c.2.2 := by decide

theorem witness_DcpIsb_forms : ∀ c ∈ ([
      (⟨0xC7, .zp, 5, false⟩, .dcpZp 0xFF, .mem (.zp 0xFF)), (⟨0xD7, .zpx, 6, false⟩, .dcpZpx 0xFF, .mem (.zpx 0xFF)),
      (⟨0xCF, .abs, 6, false⟩, .dcpAbs 0xFFFF, .mem (.abs 0xFFFF)), (⟨0xDF, .abx, 7, false⟩, .dcpAbx 0xFFFF, .mem (.abx 0xFFFF)),
      (⟨0xDB, .aby, 7, false⟩, .dcpAby 0xFFFF, .mem (.aby 0xFFFF)), (⟨0xC3, .izx, 8, false⟩, .dcpIzx 0xFF, .mem (.izx 0xFF)),
      (⟨0xD3, .izy, 8, false⟩, .dcpIzy 0xFF, .mem (.izy 0xFF)), (⟨0xE7, .zp, 5, false⟩, .isbZp 0xFF, .mem (.zp 0xFF)),
      (⟨0xF7, .zpx, 6, false⟩, .isbZpx 0xFF, .mem (.zpx 0xFF)), (⟨0xEF, .abs, 6, false⟩, .isbAbs 0xFFFF, .mem (.abs 0xFFFF)),
      (⟨0xFF, .abx, 7, false⟩, .isbAbx 0xFFFF, .mem (.abx 0xFFFF)), (⟨0xFB, .aby, 7, false⟩, .isbAby 0xFFFF, .mem (.aby 0xFFFF)),
      (⟨0xE3, .izx, 8, false⟩, .isbIzx 0xFF, .mem (.izx 0xFF)), (⟨0xF3, .izy, 8, false⟩, .isbIzy 0xFF, .mem (.izy 0xFF))] : List (Form × Instr × Mode)),
    c.1.encodes c.2.1 c.2.2 := by decide

theorem witness_SloRla_forms : ∀ c ∈ ([
      (⟨0x07, .zp, 5, false⟩, .sloZp 0xFF, .mem (.zp 0xFF)), (⟨0x17, .zpx, 6, false⟩, .sloZpx 0xFF, .mem (.zpx 0xFF)),
      (⟨0x0F, .abs, 6, false⟩, .sloAbs 0xFFFF, .mem (.abs 0xFFFF)), (⟨0x1F, .abx, 7, false⟩, .sloAbx 0xFFFF, .mem (.abx 0xFFFF)),
      (⟨0x1B, .aby, 7, false⟩, .sloAby 0xFFFF, .mem (.aby 0xFFFF)), (⟨0x03, .izx, 8, false⟩, .sloIzx 0xFF, .mem (.izx 0xFF)),
      (⟨0x13, .izy, 8, false⟩, .sloIzy 0xFF, .mem (.izy 0xFF)), (⟨0x27, .zp, 5, false⟩, .rlaZp 0xFF, .mem (.zp 0xFF)),
      (⟨0x37, .zpx, 6, false⟩, .rlaZpx 0xFF, .mem (.zpx 0xFF)), (⟨0x2F, .abs, 6, false⟩, .rlaAbs 0xFFFF, .mem (.abs 0xFFFF)),
      (⟨0x3F, .abx, 7, false⟩, .rlaAbx 0xFFFF, .mem (.abx 0xFFFF)), (⟨0x3B, .aby, 7, false⟩, .rlaAby 0xFFFF, .mem (.aby 0xFFFF)),
      (⟨0x23, .izx, 8, false⟩, .rlaIzx 0xFF, .mem (.izx 0xFF)), (⟨0x33, .izy, 8, false⟩, .rlaIzy 0xFF, .mem (.izy 0xFF))] : List (Form × Instr × Mode)),
    c.1.encodes c.2.1 c.2.2 := by decide

theorem witness_SreRra_forms : ∀ c ∈ ([
      (⟨0x47, .zp, 5, false⟩, .sreZp 0xFF, .mem (.zp 0xFF)), (⟨0x57, .zpx, 6, false⟩, .sreZpx 0xFF, .mem (.zpx 0xFF)),
      (⟨0x4F, .abs, 6, false⟩, .sreAbs 0xFFFF, .mem (.abs 0xFFFF)), (⟨0x5F, .abx, 7, false⟩, .sreAbx 0xFFFF, .mem (.abx 0xFFFF)),
      (⟨0x5B, .aby, 7, false⟩, .sreAby 0xFFFF, .mem (.aby 0xFFFF)), (⟨0x43, .izx, 8, false⟩, .sreIzx 0xFF, .mem (.izx 0xFF)),
      (⟨0x53, .izy, 8, false⟩, .sreIzy 0xFF, .mem (.izy 0xFF)), (⟨0x67, .zp, 5, false⟩, .rraZp 0xFF, .mem (.zp 0xFF)),
      (⟨0x77, .zpx, 6, false⟩, .rraZpx 0xFF, .mem (.zpx 0xFF)), (⟨0x6F, .abs, 6, false⟩, .rraAbs 0xFFFF, .mem (.abs 0xFFFF)),
      (⟨0x7F, .abx, 7, false⟩, .rraAbx 0xFFFF, .mem (.abx 0xFFFF)), (⟨0x7B, .aby, 7, false⟩, .rraAby 0xFFFF, .mem (.aby 0xFFFF)),
      (⟨0x63, .izx, 8, false⟩, .rraIzx 0xFF, .mem (.izx 0xFF)), (⟨0x73, .izy, 8, false⟩, .rraIzy 0xFF, .mem (.izy 0xFF))] : List (Form × Instr × Mode)),
    c.1.encodes c.2.1 c.2.2 := by decide

/-! The clauses of `readsThen`, `storesThen` and `modifiesThen`: addresses at both ends of each range. -/

theorem witness_reads_complete : ([0x0000, 0x1FFF, 0x2002, 0x3FFC, 0x3FFF, 0x4000, 0x4013, 0x4015, 0x401F, 0x8000, 0xFFFF] : List Word).all (fun a => decide (operandReadable (.mem (.abs a)) w = true)) = true := by decide

theorem witness_reads_complete_other_modes : operandReadable (.imm 0xFF) w = true ∧ operandReadable (.mem (.zp 0xFF)) w = true ∧
    operandReadable (.mem (.zpx 0xFF)) w = true ∧ operandReadable (.mem (.zpy 0xFF)) w = true ∧
    operandReadable (.mem (.abx 0x1FFF)) w = true ∧ operandReadable (.mem (.aby 0x1FFF)) w = true ∧
    operandReadable (.mem (.izx 0x10)) (start .halt [] regs0 [(0x010, 0xFF), (0x011, 0x1F)]) = true ∧
    operandReadable (.mem (.izy 0xFF)) (start .halt [] regs0 [(0x0FF, 0xFF), (0x000, 0xFF)]) = true := by decide

/-- The operand fault of a mode. -/
def operandFaults (m : Mode) (s : State) : Bool :=
  match operandOf m s with
  | some (.fault _) => true
  | some (.ok _ _) => false
  | none => false

theorem witness_reads_fault : (([0x2000, 0x2001, 0x2003, 0x2005, 0x2006, 0x3FFE, 0x4014, 0x4020, 0x7FFF] : List Word).all
      (fun a => decide (operandFaults (.mem (.abs a)) w = true)) = true) ∧
    operandFaults (.mem (.izy 0x10)) (start .halt [] regs0 [(0x010, 0x00), (0x011, 0x20)]) = true := by decide

theorem witness_stores_complete : (([0x0000, 0x1FFF, 0x2000, 0x2006, 0x3FFD, 0x4000, 0x4013, 0x4015, 0x401F] : List Word).all
      (fun a => decide (writable a 0x00 w = true)) = true) ∧ writable 0x2007 0x00 (wv 0x2000) = true ∧
      writable 0x3FFF 0x00 (wv 0x3FFF) = true ∧
    writable 0x4014 0x1F w = true ∧ writable 0x4014 0x80 w = true ∧ writable 0x4014 0xFF w = true := by decide

/-- A store at `a` faults. -/
def writeFaults (a : Word) (v : Byte) (s : State) : Bool :=
  match busWrite s.pc a v (s.atNext 3) with
  | .fault _ => true
  | .ok _ _ => false

theorem witness_stores_fault : (([0x2002, 0x3FFA, 0x4020, 0x7FFF, 0x8000, 0xFFFF] : List Word).all
      (fun a => decide (writeFaults a 0x00 w = true)) = true) ∧
    writeFaults 0x2007 0x00 (wv 0x1FFF) = true ∧ writeFaults 0x4014 0x20 w = true ∧ writeFaults 0x4014 0x7F w = true := by decide

theorem witness_modifies_complete : (([0x0000, 0x1FFF, 0x2004, 0x3FFC, 0x4000, 0x4013, 0x4015, 0x401F] : List Word).all
      (fun a => decide (modifiable a w = true)) = true) ∧ modifiable 0x2007 (wv 0x1FFF) = true ∧
      modifiable 0x3FFF (wv 0x3FFE) = true := by decide

theorem witness_modifies_read_fault : operandFaults (.mem (.abs 0x2000)) w = true ∧ operandFaults (.mem (.abs 0x4014)) w = true := by decide

/-- The read completes and the write of the result faults: PRG ROM, the status port, the data port where the increment wraps to 0. -/
theorem witness_modifies_write_fault :
    (∃ v s1 f, operandOf (.mem (.abs 0x8000)) w = some (.ok v s1) ∧ busWrite w.pc 0x8000 (v + 1) { s1 with p := w.p } = .fault f) ∧
    (∃ v s1 f, operandOf (.mem (.abs 0x2002)) w = some (.ok v s1) ∧ busWrite w.pc 0x2002 (v + 1) { s1 with p := w.p } = .fault f) ∧
    (∃ v s1 f, operandOf (.mem (.abs 0x2007)) (wv 0x3FFF) = some (.ok v s1) ∧
      busWrite w.pc 0x2007 (v + 1) { s1 with p := w.p } = .fault f) :=
  ⟨⟨_, _, _, rfl, rfl⟩, ⟨_, _, _, rfl, rfl⟩, ⟨_, _, _, rfl, rfl⟩⟩

/-- The P between the read and the write exists: unchanged, or with the C of the byte read. -/
theorem witness_modifies_flags : flagsAre 0x24 0x24 [] ∧ flagsAre 0x24 0x25 [(.c, bitAt 7 0x80)] ∧
      flagsAre 0x25 0x24 [(.c, bitAt 0 0x80)] := by
  refine ⟨⟨by decide, ?_⟩, ⟨by decide, ?_⟩, ⟨by decide, ?_⟩⟩ <;> intro f <;> cases f <;> decide

theorem witness_AccessFaults : (([0x4020, 0x7FFF] : List Word).all (fun a => decide (0x4020 ≤ a.toNat ∧ a.toNat < 0x8000)) = true) ∧
    (([0x8000, 0xFFFF] : List Word).all (fun a => decide (0x8000 ≤ a.toNat)) = true) ∧
    (([0x2000, 0x2001, 0x2003, 0x2005, 0x3FFE] : List Word).all (fun a => decide (0x2000 ≤ a.toNat ∧ a.toNat < 0x4000 ∧
      a.toNat % 8 ∈ [0, 1, 3, 5, 6])) = true) ∧
    (0x4014 : Word).toNat = 0x4014 ∧ (([0x2002, 0x3FFA] : List Word).all (fun a => decide (0x2000 ≤ a.toNat ∧ a.toNat < 0x4000 ∧
      a.toNat % 8 = 2)) = true) := by
  decide

theorem witness_RamAccess : ([0x0000, 0x07FF, 0x0800, 0x1FFF] : List Word).all (fun a => decide (a.toNat < 0x2000)) = true := by decide

theorem witness_PrgRead : w.cart.banks = .one ∧ { w with cart := { w.cart with banks := .two } }.cart.banks = .two ∧
    (([0x8000, 0xBFFF] : List Word).all (fun a => decide (0x8000 ≤ a.toNat ∧ a.toNat < 0xC000)) = true) ∧
      0x8000 ≤ (0xFFFF : Word).toNat := by decide

theorem witness_ControlAndMaskWrites : ([0x2000, 0x3FF8, 0x2001, 0x3FF9] : List Word).all (fun a => decide (0x2000 ≤ a.toNat ∧
      a.toNat < 0x4000 ∧ (a.toNat % 8 = 0 ∨ a.toNat % 8 = 1))) = true := by decide

theorem witness_StatusRead : ([0x2002, 0x3FFA] : List Word).all (fun a => decide (0x2000 ≤ a.toNat ∧ a.toNat < 0x4000 ∧
      a.toNat % 8 = 2)) = true := by decide

theorem witness_OamPorts : ([0x2003, 0x3FFB, 0x2004, 0x3FFC] : List Word).all (fun a => decide (0x2000 ≤ a.toNat ∧ a.toNat < 0x4000 ∧
      (a.toNat % 8 = 3 ∨ a.toNat % 8 = 4))) = true := by decide

theorem witness_TwoWriteLatches : (([0x2005, 0x3FFD, 0x2006, 0x3FFE] : List Word).all (fun a => decide (0x2000 ≤ a.toNat ∧
      a.toNat < 0x4000 ∧ (a.toNat % 8 = 5 ∨ a.toNat % 8 = 6))) = true) ∧ w.ppu.scrollFirst = true ∧ w.ppu.addrFirst = true ∧
    (withPpu fun u => { u with scrollFirst := false, addrFirst := false }).ppu.scrollFirst = false ∧
    (withPpu fun u => { u with scrollFirst := false, addrFirst := false }).ppu.addrFirst = false := by decide

theorem witness_DataPort : (([0x2007, 0x3FFF] : List Word).all (fun a => decide (0x2000 ≤ a.toNat ∧ a.toNat < 0x4000 ∧
      a.toNat % 8 = 7)) = true) ∧
    (([0x0000, 0x1FFF] : List Word).all (fun v => decide ((wv v).ppu.v.toNat < 0x2000)) = true) ∧
    (([0x2000, 0x3EFF] : List Word).all (fun v => decide (0x2000 ≤ (wv v).ppu.v.toNat ∧ (wv v).ppu.v.toNat < 0x3F00)) = true) ∧
    (([0x3F00, 0x3FFF] : List Word).all (fun v => decide (0x3F00 ≤ (wv v).ppu.v.toNat)) = true) ∧
    ¬ ((wv 0x3F00).params.readBuffered = true ∧ (wv 0x3F00).ppu.v.toNat < 0x3F00) ∧
    { wv 0x3EFF with params := ⟨.vector, true⟩ }.params.readBuffered = true := by decide

theorem witness_OamDma : (([0x00, 0x1F, 0x80, 0xFF] : List Byte).all (fun v => decide (v.toNat < 0x20 ∨ 0x80 ≤ v.toNat)) = true) ∧
    (([0x20, 0x3F] : List Byte).all (fun v => decide (0x20 ≤ v.toNat ∧ v.toNat < 0x40)) = true) ∧ (0x40 : Byte).toNat = 0x40 ∧
    (([0x41, 0x7F] : List Byte).all (fun v => decide (0x40 < v.toNat ∧ v.toNat < 0x80)) = true) := by decide

theorem witness_ApuRegisters : (([0x4000, 0x4013, 0x4015, 0x4017, 0x401F] : List Word).all (fun a => decide (0x4000 ≤ a.toNat ∧
      a.toNat < 0x4020 ∧ a.toNat ≠ 0x4014 ∧ a.toNat ≠ 0x4016)) = true) ∧ (0x401F : Word).toNat ≠ 0x4017 := by decide

theorem witness_Joypads : { w with pad1 := ⟨0x80, true, 7⟩, pad2 := ⟨0x80, false, 7⟩ }.pad1.index < 8 ∧
    { w with pad1 := ⟨0x80, true, 7⟩, pad2 := ⟨0x80, false, 7⟩ }.pad2.index < 8 ∧
    8 ≤ { w with pad1 := ⟨0x80, true, 8⟩, pad2 := ⟨0x80, false, 8⟩ }.pad1.index ∧
    8 ≤ { w with pad1 := ⟨0x80, true, 8⟩, pad2 := ⟨0x80, false, 8⟩ }.pad2.index := by decide

/-- One dot before the NMI, with the NMI enabled. -/
def wEdge : State := withPpu fun u => { u with oam := [(0, 0), (3, 0)], ctrl := 0x80, scanline := 240, dot := 338 }

theorem witness_TickAndHostFrame : ¬ (w.ppu.nmiPending = false ∧ (ppuAdvance (3 * 2) w.ppu).nmiPending = true) ∧
    wEdge.ppu.nmiPending = false ∧ (ppuAdvance (3 * 1) wEdge.ppu).nmiPending = true := by decide

theorem witness_PpuAdvance : { Ppu.reset with dot := 340 }.dot + 0 < 341 ∧ 341 ≤ { Ppu.reset with dot := 340 }.dot + 1 := by decide

/-- SEC is outside every exception list of the register frame and TXS of the flag frame, TXS in the list of Z and N. -/
theorem witness_RegisterFrame : descriptor .sec = some ⟨.sec, .imp, 2, false⟩ ∧ ∃ t, exec .sec w = .next t := ⟨rfl, _, rfl⟩

theorem witness_FlagFrame : descriptor .txs = some ⟨.txs, .imp, 2, false⟩ ∧ ∃ t, exec .txs w = .next t := ⟨rfl, _, rfl⟩

/-- A store to 0x1FFF: it stores cell 0x7FF and no other; 0x1FFE and 0x8000 are plain memory outside it. -/
theorem witness_MemoryFrame : descriptor (.staAbs 0x1FFF) = some ⟨.sta, .mem (.abs 0x1FFF), 4, false⟩ ∧
    (∃ t, exec (.staAbs 0x1FFF) w = .next t) ∧ 0x7FE ∉ ramStores ⟨.sta, .mem (.abs 0x1FFF), 4, false⟩ w ∧
    isPlain 0x1FFE = true ∧ ramIndex 0x1FFE ∉ ramStores ⟨.sta, .mem (.abs 0x1FFF), 4, false⟩ w ∧ isPlain 0x8000 = true :=
  ⟨rfl, ⟨_, rfl⟩, by decide, by decide, by decide, by decide⟩

theorem witness_DeviceFrame : descriptor (.jmpInd 0x1FFF) = some ⟨.jmp, .ind 0x1FFF, 5, false⟩ ∧ (∃ t, exec (.jmpInd 0x1FFF) w = .next t) ∧
    ∀ a ∈ busAddresses ⟨.jmp, .ind 0x1FFF, 5, false⟩ w, isPlain a = true :=
  ⟨rfl, ⟨_, rfl⟩, List.all_eq_true.mp (by decide : (busAddresses ⟨.jmp, .ind 0x1FFF, 5, false⟩ w).all isPlain = true)⟩

/-- The four instructions that save, at SP = 0x00, where the stack wraps. -/
theorem witness_StackRoundTrips : (∃ t, exec (.jsr 0x8020) { w with sp := 0x00 } = .next t) ∧
      (∃ t, exec .brk { w with sp := 0x00 } = .next t) ∧
    (∃ t, exec .pha { w with sp := 0x00 } = .next t) ∧ ∃ t, exec .php { w with sp := 0x00 } = .next t :=
  ⟨⟨_, rfl⟩, ⟨_, rfl⟩, ⟨_, rfl⟩, ⟨_, rfl⟩⟩

theorem witness_ResetValues : (some 0x8000 : Option Word) = some 0x8000 ∧ (none : Option Word) = none := ⟨rfl, rfl⟩

/-- A state that meets the invariant and steps: the one in which a write reaches RAM. -/
theorem witness_StepKeepsInv : State.Inv (start .halt [0x8D, 0xFF, 0x1F] regs0 []) ∧
    ∃ t, step (start .halt [0x8D, 0xFF, 0x1F] regs0 []) = .next t :=
  ⟨⟨by decide, by decide, by decide, ⟨by decide, by decide, by decide, by decide, by decide, by decide, by decide, by decide⟩, by decide,
    by decide, by decide⟩, _, rfl⟩

theorem witness_BreakBitsNeverChange : ∃ t, step w = .next t := ⟨_, rfl⟩

/-- CV1's file, its memories zero: 16 + 16384 + 8192 bytes. -/
def imageCv1 : List Byte := [0x4E, 0x45, 0x53, 0x1A, 1, 1, 0, 0, 0, 0, 0, 0, 0, 0, 0, 0] ++ List.replicate 24576 0

theorem acceptHeader_of_accepts {b : List Byte} {n : Nat} {h : Header} (ha : accepts b n h = true) :
    acceptHeader ([0x4E, 0x45, 0x53, 0x1A] ++ b) n = .ok h := by
  unfold accepts at ha
  split at ha
  · next hg => rw [hg, of_decide_eq_true ha]
  · cases ha

theorem witness_CartridgeAcceptance : ∃ c, configure imageCv1 = .ok c := by
  have hl : imageCv1.length = 24592 := by simp only [imageCv1, List.length_append, List.length_replicate]; rfl
  have ht : imageCv1.take 16 = [0x4E, 0x45, 0x53, 0x1A] ++ [1, 1, 0, 0, 0, 0, 0, 0, 0, 0, 0, 0] := List.take_left' rfl
  have ha := acceptHeader_of_accepts (b := [1, 1, 0, 0, 0, 0, 0, 0, 0, 0, 0, 0]) (n := 24592) (h := ⟨.one, .horizontal, false⟩) (by decide)
  unfold configure
  rw [hl, ht, ha]
  exact ⟨_, rfl⟩

end Sys2Proof.Tests
end

section
/-! SUPPORT. What each executed instruction leaves alone, said once: a function of the state is left alone by an instruction when it
sees neither time nor memory nor devices and every register operation of the instruction leaves it alone. -/

namespace Sys2Proof.Machine

section
variable {β : Type}

/-- `g` sees neither time nor what a bus access can change. -/
structure Steady (g : State → β) : Prop where
  time : ∀ n s, g (tick n s) = g s
  access : ∀ s t, OnlyRamAndDevices s t → g t = g s

/-- The two register operations of a read-modify-write, before and after its write, leave `g` alone. -/
structure LeavesModify (g : State → β) (before : Byte → State → State) (after : Byte → Byte → State → State) : Prop where
  before : ∀ v s, g (before v s) = g s
  after : ∀ v r s, g (after v r s) = g s

/-- The same with an accumulator form, whose one operation counts in that mode only. -/
structure LeavesShift (g : State → β) (md : Mode) (acc : State → State) (after : Byte → Byte → State → State) : Prop where
  acc : md = .acc → ∀ s, g (acc s) = g s
  after : ∀ v r s, g (after v r s) = g s

/-- Every register operation that `run` applies for the mnemonic `mn` in mode `md` leaves `g` alone. -/
def Leaves (g : State → β) (mn : Mnemonic) (md : Mode) : Prop :=
  match mn with
  | .adc => ∀ v s, g (opAdc v s) = g s
  | .sbc => ∀ v s, g (opSbc v s) = g s
  | .and => ∀ v s, g (opAnd v s) = g s
  | .ora => ∀ v s, g (opOra v s) = g s
  | .eor => ∀ v s, g (opEor v s) = g s
  | .bit => ∀ v s, g (opBit v s) = g s
  | .cmp => ∀ v s, g (opCmp v s) = g s
  | .cpx => ∀ v s, g (opCpx v s) = g s
  | .cpy => ∀ v s, g (opCpy v s) = g s
  | .lda => ∀ v s, g (putA v s) = g s
  | .ldx => ∀ v s, g (putX v s) = g s
  | .ldy => ∀ v s, g (putY v s) = g s
  | .lax => ∀ v s, g (opLax v s) = g s
  | .sta | .stx | .sty | .sax | .nop => True
  | .asl => LeavesShift g md (leftA aslByte) leftFlags
  | .lsr => LeavesShift g md (rightA lsrByte) rightFlags
  | .rol => LeavesShift g md (leftA rolByte) leftFlags
  | .ror => LeavesShift g md (rightA rorByte) rightFlags
  | .inc | .dec => LeavesModify g noneBefore updateAfter
  | .dcp => LeavesModify g noneBefore dcpAfter
  | .isb => LeavesModify g noneBefore isbAfter
  | .slo => LeavesModify g carryFromHigh sloAfter
  | .rla => LeavesModify g carryFromHigh rlaAfter
  | .sre => LeavesModify g carryFromLow sreAfter
  | .rra => LeavesModify g carryFromLow rraAfter
  | .bcc | .bcs | .beq | .bmi | .bne | .bpl | .bvc | .bvs | .jmp => ∀ w s, g (s.setPc w) = g s
  | .inx => ∀ s, g (putX (s.x + 1) s) = g s
  | .iny => ∀ s, g (putY (s.y + 1) s) = g s
  | .dex => ∀ s, g (putX (s.x - 1) s) = g s
  | .dey => ∀ s, g (putY (s.y - 1) s) = g s
  | .tax => ∀ s, g (putX s.a s) = g s
  | .tay => ∀ s, g (putY s.a s) = g s
  | .txa => ∀ s, g (putA s.x s) = g s
  | .tya => ∀ s, g (putA s.y s) = g s
  | .tsx => ∀ s, g (putX s.sp s) = g s
  | .txs => ∀ s, g (s.setSp s.x) = g s
  | .pha => ∀ s, g (push s.a s) = g s
  | .php => ∀ s, g (opPhp s) = g s
  | .pla => ∀ s, g (opPla s) = g s
  | .plp => ∀ s, g (opPlp s) = g s
  | .clc => ∀ s, g (opFlag .c false s) = g s
  | .sec => ∀ s, g (opFlag .c true s) = g s
  | .cli => ∀ s, g (opFlag .i false s) = g s
  | .sei => ∀ s, g (opFlag .i true s) = g s
  | .cld => ∀ s, g (opFlag .d false s) = g s
  | .sed => ∀ s, g (opFlag .d true s) = g s
  | .clv => ∀ s, g (opFlag .v false s) = g s
  | .brk => ∀ s, g (opBrk s) = g s
  | .rti => ∀ s, g (trapReturn s) = g s
  | .rts => ∀ s, g (opRts s) = g s
  | .jsr => ∀ a s, g (opJsr a s) = g s

/-- What an instruction's register operations leave alone, the instruction leaves alone once PC is `next`. -/
theorem run_same {g : State → β} (hg : Steady g) {d : Descriptor} (hl : Leaves g d.mnemonic d.mode) {s t : State}
    (h : run d s = .next t) : g t = g (s.atNext d.mode.length) := by
  have hread : ∀ s t, OnlyDevices s t → g t = g s := fun s t hd => hg.access s t hd.toRam
  obtain ⟨mn, md, c, p⟩ := d
  cases mn with
  | adc | sbc | and | ora | eor | bit | cmp | cpx | cpy | lda | ldx | ldy | lax => exact runRead_same g hg.time hread hl h
  | sta | stx | sty | sax => exact runStore_same g hg.time hg.access h
  | asl | lsr | rol | ror => exact runModify_same g hg.time hg.access (fun _ _ => rfl) hl.after hl.acc h
  | inc | dec | dcp | isb | slo | rla | sre | rra => exact runModifyMem_same g hg.time hg.access hl.before hl.after h
  | bcc | bcs | beq | bmi | bne | bpl | bvc | bvs => exact runBranch_same g hg.time hl h
  | jmp => exact runJmp_same g hg.time hread hl h
  | jsr => exact runJsr_same g hg.time hl h
  | nop => exact runNop_same g hg.time h
  | _ => exact runImplied_same g hg.time hl h

/-- The same of an instruction that answers a next state. -/
theorem exec_same {g : State → β} (hg : Steady g) {i : Instr} {d : Descriptor} {s t : State} (hd : descriptor i = some d)
    (h : exec i s = .next t) (hl : Leaves g d.mnemonic d.mode) : g t = g (s.atNext d.mode.length) :=
  run_same hg hl (exec_eq_run hd s ▸ h)

end

/-- BRK's effect leaves alone what neither its trap entry nor its two endings change. -/
theorem opBrk_same {β : Type} {g : State → β} (ht : ∀ r st s, g (trapEntry r st s) = g s) (hpc : ∀ w s, g (s.setPc w) = g s)
    (hrun : ∀ b s, g (s.setRunning b) = g s) (s : State) : g (opBrk s) = g s := by
  rcases opBrk_cases s with e | e <;> rw [e]
  · exact (hpc _ _).trans (ht _ _ _)
  · exact (hrun _ _).trans (ht _ _ _)

/-! ### The registers (10_state.md R21-R25, R41) -/

/-- The rule of the mnemonic `mn`, in mode `md`, names A as written. -/
abbrev WritesA (mn : Mnemonic) (md : Mode) : Prop :=
  mn ∈ [.adc, .sbc, .and, .ora, .eor, .lda, .pla, .txa, .tya, .lax, .slo, .rla, .sre, .rra, .isb] ∨
    mn ∈ [.asl, .lsr, .rol, .ror] ∧ md = .acc

/-- The rule names X as written. -/
abbrev WritesX (mn : Mnemonic) : Prop := mn ∈ [.ldx, .tax, .tsx, .inx, .dex, .lax]

/-- The rule names Y as written. -/
abbrev WritesY (mn : Mnemonic) : Prop := mn ∈ [.ldy, .tay, .iny, .dey]

/-- The rule names SP as written. -/
abbrev WritesSp (mn : Mnemonic) : Prop := mn ∈ [.txs, .pha, .php, .pla, .plp, .jsr, .rts, .brk, .rti]

/-- The instruction transfers control. -/
abbrev WritesPc (mn : Mnemonic) : Prop := mn ∈ [.bcc, .bcs, .beq, .bmi, .bne, .bpl, .bvc, .bvs, .jmp, .jsr, .rts, .brk, .rti]

/-- `g` sees neither P nor RAM nor any register that the instruction's rule names as written. -/
structure Unwritten {β : Type} (g : State → β) (mn : Mnemonic) (md : Mode) : Prop where
  p : ∀ v s, g (s.setP v) = g s := by intros; rfl
  ram : ∀ i v s, g (ramStore i v s) = g s := by intros; rfl
  a : WritesA mn md → ∀ v s, g (s.setA v) = g s := by intros; rfl
  x : WritesX mn → ∀ v s, g (s.setX v) = g s := by intros; rfl
  y : WritesY mn → ∀ v s, g (s.setY v) = g s := by intros; rfl
  sp : WritesSp mn → ∀ v s, g (s.setSp v) = g s := by intros; rfl
  pc : WritesPc mn → ∀ v s, g (s.setPc v) = g s := by intros; rfl
  running : mn = .brk → ∀ v s, g (s.setRunning v) = g s := by intros; rfl

section
variable {β : Type} {g : State → β} {mn : Mnemonic} {md : Mode} (hg : Unwritten g mn md)
include hg

theorem Unwritten.putA (hw : WritesA mn md) (v : Byte) (s : State) : g (putA v s) = g s := (hg.p _ _).trans (hg.a hw v s)
theorem Unwritten.putX (hw : WritesX mn) (v : Byte) (s : State) : g (putX v s) = g s := (hg.p _ _).trans (hg.x hw v s)
theorem Unwritten.putY (hw : WritesY mn) (v : Byte) (s : State) : g (putY v s) = g s := (hg.p _ _).trans (hg.y hw v s)
theorem Unwritten.opAdc (hw : WritesA mn md) (v : Byte) (s : State) : g (opAdc v s) = g s := (hg.a hw _ _).trans (hg.p _ _)
theorem Unwritten.push (hw : WritesSp mn) (v : Byte) (s : State) : g (push v s) = g s := (hg.sp hw _ _).trans (hg.ram _ _ _)
theorem Unwritten.afterPull (hw : WritesSp mn) (s : State) : g (afterPull s) = g s := hg.sp hw _ s

theorem Unwritten.push16 (hw : WritesSp mn) (w : Word) (s : State) : g (push16 w s) = g s :=
  (hg.push hw _ _).trans (hg.push hw _ _)

theorem Unwritten.afterPull16 (hw : WritesSp mn) (s : State) : g (afterPull16 s) = g s :=
  (hg.afterPull hw _).trans (hg.afterPull hw _)

theorem Unwritten.trapEntry (hw : WritesSp mn) (ret : Word) (st : Byte) (s : State) : g (trapEntry ret st s) = g s :=
  (hg.p _ _).trans ((hg.push hw _ _).trans (hg.push16 hw _ _))

theorem Unwritten.trapReturn (hsp : WritesSp mn) (hpc : WritesPc mn) (s : State) : g (trapReturn s) = g s :=
  (hg.pc hpc _ _).trans ((hg.afterPull16 hsp _).trans ((hg.p _ _).trans (hg.afterPull hsp s)))

/-- An instruction's register operations change P and the registers that its rule names as written, nothing else. -/
theorem Unwritten.leaves : Leaves g mn md := by
  cases mn with
  | sta | stx | sty | sax | nop => trivial
  | adc | sbc => exact fun _ s => hg.opAdc (.inl (by decide)) _ s
  | and | ora | eor | lda => exact fun _ s => hg.putA (.inl (by decide)) _ s
  | ldx => exact hg.putX (by decide)
  | ldy => exact hg.putY (by decide)
  | lax => exact fun v s => (hg.p _ _).trans ((hg.x (by decide) v _).trans (hg.a (.inl (by decide)) v s))
  | bit | cmp | cpx | cpy => exact fun _ s => hg.p _ s
  | asl | lsr | rol | ror =>
    exact ⟨fun hm s => (hg.p _ _).trans (hg.a (.inr ⟨by decide, hm⟩) _ s), fun _ _ s => hg.p _ s⟩
  | inc | dec | dcp => exact ⟨fun _ _ => rfl, fun _ _ s => hg.p _ s⟩
  | isb => exact ⟨fun _ _ => rfl, fun _ _ s => hg.opAdc (.inl (by decide)) _ s⟩
  | slo | rla | sre => exact ⟨fun _ s => hg.p _ s, fun _ _ s => hg.putA (.inl (by decide)) _ s⟩
  | rra => exact ⟨fun _ s => hg.p _ s, fun _ _ s => hg.opAdc (.inl (by decide)) _ s⟩
  | bcc | bcs | beq | bmi | bne | bpl | bvc | bvs | jmp => exact hg.pc (by decide)
  | inx | dex | tax | tsx => exact fun s => hg.putX (by decide) _ s
  | iny | dey | tay => exact fun s => hg.putY (by decide) _ s
  | txa | tya => exact fun s => hg.putA (.inl (by decide)) _ s
  | txs => exact fun s => hg.sp (by decide) _ s
  | pha | php => exact fun s => hg.push (by decide) _ s
  | pla => exact fun s => (hg.putA (.inl (by decide)) _ _).trans (hg.afterPull (by decide) s)
  | plp => exact fun s => (hg.p _ _).trans (hg.afterPull (by decide) s)
  | clc | sec | cli | sei | cld | sed | clv => exact fun s => hg.p _ s
  | brk => exact opBrk_same (hg.trapEntry (by decide)) (hg.pc (by decide)) (hg.running rfl)
  | rti => exact hg.trapReturn (by decide) (by decide)
  | rts => exact fun s => (hg.pc (by decide) _ _).trans (hg.afterPull16 (by decide) s)
  | jsr => exact fun _ s => (hg.pc (by decide) _ _).trans (hg.push16 (by decide) _ s)

end

theorem steady_a : Steady State.a := ⟨tick_a, fun _ _ => OnlyRamAndDevices.a⟩
theorem steady_x : Steady State.x := ⟨tick_x, fun _ _ => OnlyRamAndDevices.x⟩
theorem steady_y : Steady State.y := ⟨tick_y, fun _ _ => OnlyRamAndDevices.y⟩
theorem steady_sp : Steady State.sp := ⟨tick_sp, fun _ _ => OnlyRamAndDevices.sp⟩
theorem steady_pc : Steady State.pc := ⟨tick_pc, fun _ _ => OnlyRamAndDevices.pc⟩
theorem steady_running : Steady State.running := ⟨tick_running, fun _ _ => OnlyRamAndDevices.running⟩

/-- Settles O49: each register is left alone by every instruction whose rule does not name it as written. -/
theorem registerFrame : Obligations.RegisterFrame := by
  intro i d s t hd h
  refine ⟨fun hm hacc => ?_, fun hm => ?_, fun hm => ?_, fun hm => ?_, fun hm => ?_, fun hm => ?_⟩
  · exact exec_same steady_a hd h (Unwritten.leaves { a := fun hw => absurd hw (not_or.mpr ⟨hm, hacc⟩) })
  · exact exec_same steady_x hd h (Unwritten.leaves { x := fun hw => absurd hw hm })
  · exact exec_same steady_y hd h (Unwritten.leaves { y := fun hw => absurd hw hm })
  · exact exec_same steady_sp hd h (Unwritten.leaves { sp := fun hw => absurd hw hm })
  · exact exec_same steady_pc hd h (Unwritten.leaves { pc := fun hw => absurd hw hm })
  · exact exec_same steady_running hd h (Unwritten.leaves { running := fun hw => absurd hw hm })

/-! ### The fields of P (10_state.md R26) -/

/-- The fields of P that the rule of each mnemonic writes, as the column "written by" of R26 has them. -/
def writtenFlags (mn : Mnemonic) : List Flag :=
  match mn with
  | .adc | .sbc | .isb | .rra => [.c, .z, .v, .n]
  | .cmp | .cpx | .cpy | .dcp | .asl | .lsr | .rol | .ror | .slo | .rla | .sre => [.c, .z, .n]
  | .bit => [.z, .v, .n]
  | .and | .ora | .eor | .lda | .ldx | .ldy | .lax | .inc | .dec | .pla => [.z, .n]
  | .inx | .iny | .dex | .dey | .tax | .tay | .txa | .tya | .tsx => [.z, .n]
  | .plp | .rti => [.c, .z, .i, .d, .v, .n]
  | .clc | .sec => [.c]
  | .cli | .sei | .brk => [.i]
  | .cld | .sed => [.d]
  | .clv => [.v]
  | .sta | .stx | .sty | .sax | .txs | .pha | .php | .nop => []
  | .bcc | .bcs | .beq | .bmi | .bne | .bpl | .bvc | .bvs | .jmp | .jsr | .rts => []

/-- The value of field `f` in the state's P. -/
def State.flag (f : Flag) (s : State) : Bool := getFlag f s.p

theorem steady_flag (f : Flag) : Steady (State.flag f) where
  time n s := by simp only [State.flag, tick_p]
  access s t h := by simp only [State.flag, h.p]

/-- Taking a trap writes no field of P but I (60_exceptions.md R227). -/
theorem flag_trapEntry {f : Flag} (hi : f ≠ .i) (ret : Word) (st : Byte) (s : State) : (trapEntry ret st s).flag f = s.flag f :=
  getFlag_setFlag_ne hi true s.p

section
variable {f : Flag}

theorem flag_updateZN (hf : f ∉ [.z, .n]) (r p : Byte) : getFlag f (updateZN r p) = getFlag f p := by
  simp_all [getFlag_updateZN]

theorem flag_addFlags (hf : f ∉ [.c, .z, .v, .n]) (a op : Byte) (c : Bool) (p : Byte) :
    getFlag f (addFlags a op c p) = getFlag f p := by
  simp_all [getFlag_addFlags]

theorem flag_compareFlags (hf : f ∉ [.c, .z, .n]) (r op p : Byte) : getFlag f (compareFlags r op p) = getFlag f p := by
  simp_all [getFlag_compareFlags]

theorem flag_bitTestFlags (hf : f ∉ [.z, .v, .n]) (a op p : Byte) : getFlag f (bitTestFlags a op p) = getFlag f p := by
  simp_all [getFlag_bitTestFlags]

theorem flag_shiftFlags (hf : f ∉ [.c, .z, .n]) (carry : Bool) (r p : Byte) :
    getFlag f (shiftFlags carry r p) = getFlag f p := by
  simp_all [getFlag_shiftFlags]

theorem flag_mergeStatus (hf : f ∉ [.c, .z, .i, .d, .v, .n]) (new old : Byte) :
    getFlag f (mergeStatus new old) = getFlag f old := by
  cases f <;> simp_all [getFlag_mergeStatus]

end

/-- An instruction's register operations write no field of P but those of `writtenFlags`. -/
theorem leaves_flag {f : Flag} {mn : Mnemonic} (hf : f ∉ writtenFlags mn) (md : Mode) : Leaves (State.flag f) mn md := by
  cases mn with
  | sta | stx | sty | sax | nop => trivial
  | adc | sbc => exact fun _ s => flag_addFlags hf _ _ _ s.p
  | cmp | cpx | cpy => exact fun _ s => flag_compareFlags hf _ _ s.p
  | bit => exact fun _ s => flag_bitTestFlags hf _ _ s.p
  | and | ora | eor | lda | ldx | ldy | lax => exact fun _ s => flag_updateZN hf _ s.p
  | inx | iny | dex | dey | tax | tay | txa | tya | tsx | pla => exact fun s => flag_updateZN hf _ s.p
  | asl | lsr | rol | ror => exact ⟨fun _ s => flag_shiftFlags hf _ _ s.p, fun _ _ s => flag_shiftFlags hf _ _ s.p⟩
  | inc | dec => exact ⟨fun _ _ => rfl, fun _ _ s => flag_updateZN hf _ s.p⟩
  | dcp => exact ⟨fun _ _ => rfl, fun _ _ s => flag_compareFlags hf _ _ s.p⟩
  | isb => exact ⟨fun _ _ => rfl, fun _ _ s => flag_addFlags hf _ _ _ s.p⟩
  | slo | rla | sre =>
    have hc : f ≠ .c := fun h => hf (h ▸ by decide)
    have hzn : f ∉ [.z, .n] := fun h => hf (List.mem_cons_of_mem _ h)
    exact ⟨fun _ s => getFlag_setFlag_ne hc _ s.p, fun _ _ s => flag_updateZN hzn _ s.p⟩
  | rra =>
    have hc : f ≠ .c := fun h => hf (h ▸ by decide)
    exact ⟨fun _ s => getFlag_setFlag_ne hc _ s.p, fun _ _ s => flag_addFlags hf _ _ _ s.p⟩
  | plp | rti => exact fun s => flag_mergeStatus hf _ s.p
  | clc | sec | cli | sei | cld | sed | clv => exact fun s => getFlag_setFlag_ne (List.ne_of_not_mem_cons hf) _ s.p
  | brk => exact opBrk_same (flag_trapEntry (List.ne_of_not_mem_cons hf)) (fun _ _ => rfl) (fun _ _ => rfl)
  | bcc | bcs | beq | bmi | bne | bpl | bvc | bvs | jmp | jsr => exact fun _ _ => rfl
  | txs | pha | php | rts => exact fun _ => rfl

/-- An instruction that answers a next state leaves every field of P that its rule does not write. -/
theorem exec_flag {f : Flag} {i : Instr} {d : Descriptor} {s t : State} (hd : descriptor i = some d) (h : exec i s = .next t)
    (hf : f ∉ writtenFlags d.mnemonic) : getFlag f t.p = getFlag f s.p :=
  exec_same (steady_flag f) hd h (leaves_flag hf d.mode)

section
variable {mn : Mnemonic}

theorem c_not_written (h : mn ∉ [.adc, .sbc, .cmp, .cpx, .cpy, .asl, .lsr, .rol, .ror, .clc, .sec, .plp, .rti, .dcp, .isb, .slo, .rla,
    .sre, .rra]) : .c ∉ writtenFlags mn := by
  revert h; cases mn <;> decide

theorem zn_not_written (h : mn ∈ [.bcc, .bcs, .beq, .bmi, .bne, .bpl, .bvc, .bvs, .jmp, .jsr, .rts, .brk, .sta, .stx, .sty, .sax, .txs,
    .pha, .php, .clc, .sec, .cli, .sei, .cld, .sed, .clv, .nop]) : .z ∉ writtenFlags mn ∧ .n ∉ writtenFlags mn := by
  revert h; cases mn <;> decide

theorem i_not_written (h : mn ∉ [.sei, .cli, .brk, .plp, .rti]) : .i ∉ writtenFlags mn := by
  revert h; cases mn <;> decide

theorem d_not_written (h : mn ∉ [.sed, .cld, .plp, .rti]) : .d ∉ writtenFlags mn := by
  revert h; cases mn <;> decide

theorem v_not_written (h : mn ∉ [.adc, .sbc, .bit, .clv, .plp, .rti, .isb, .rra]) : .v ∉ writtenFlags mn := by
  revert h; cases mn <;> decide

theorem breakBits_not_written : .b1 ∉ writtenFlags mn ∧ .b2 ∉ writtenFlags mn := by
  cases mn <;> decide

end

/-- Settles O50: a field of P that the mnemonic's row of R26 does not list is the same before and after the instruction. -/
theorem flagFrame : Obligations.FlagFrame := by
  intro i d s t hd h
  have hkeep : ∀ {f : Flag}, f ∉ writtenFlags d.mnemonic → getFlag f t.p = getFlag f s.p := exec_flag hd h
  exact ⟨fun hm => hkeep (c_not_written hm), fun hm => (zn_not_written hm).imp hkeep hkeep, fun hm => hkeep (i_not_written hm),
    fun hm => hkeep (d_not_written hm), fun hm => hkeep (v_not_written hm), breakBits_not_written.imp hkeep hkeep⟩

end Sys2Proof.Machine
end

section
/-! SUPPORT. What a step can do, said once; what every step keeps: the stored bits 4 and 5 of P, the cartridge and the parameters, the
invariant `State.Inv`; and the state after reset. -/

namespace Sys2Proof.Machine

/-! ### The step (40_execute_and_addressing.md R100) -/

/-- An opcode without a descriptor is a refused one: its meaning is the decode fault (30_encoding.md R90). -/
theorem exec_fault_of_no_descriptor {i : Instr} (h : descriptor i = none) (s : State) : ∃ f, exec i s = .fault f := by
  cases i with
  | illegal02 | illegal12 | illegal22 | illegal32 | illegal42 | illegal52 | illegal62 | illegal72 | illegal92
  | illegalB2 | illegalD2 | illegalF2 | illegal0B | illegal2B | illegal4B | illegal6B | illegal8B | illegalAB
  | illegalCB | illegal93 | illegal9F | illegal9C | illegal9E | illegal9B | illegalBB => exact ⟨_, rfl⟩
  | _ => cases h

/-- A step that answers a next state repeats a halted state, takes the host's stop request, or polls the NMI, fetches and runs. -/
theorem step_next {s t : State} (h : step s = .next t) :
    t = s ∨ t = stopRun s ∨ ∃ i d s1, fetch (pollNmi s) = .ok i s1 ∧ descriptor i = some d ∧ exec i s1 = .next t := by
  unfold step at h
  split at h
  · cases h
  · split at h
    · split at h
      · cases h; exact .inr (.inl rfl)
      · split at h
        · cases h
        · next i s1 hf =>
          cases hd : descriptor i with
          | none =>
            obtain ⟨f, he⟩ := exec_fault_of_no_descriptor hd s1
            rw [he] at h; cases h
          | some d => exact .inr (.inr ⟨i, d, s1, hf, hd, h⟩)
    · cases h; exact .inl rfl

/-- A fetch keeps what every bus read keeps: it is one to three bus reads. -/
theorem fetch_keeps {J : State → Prop} (hr : ∀ pc0 a v s t, busRead pc0 a s = .ok v t → J s → J t) {s t : State} {i : Instr}
    (h : fetch s = .ok i t) (hs : J s) : J t := by
  unfold fetch fetchOperands at h
  split at h
  · cases h
  · next s1 h1 =>
    have j1 := hr _ _ _ _ _ h1 hs
    split at h
    · cases h; exact j1
    · split at h
      · cases h
      · next h2 => cases h; exact hr _ _ _ _ _ h2 j1
    · split at h
      · cases h
      · next h2 =>
        have j2 := hr _ _ _ _ _ h2 j1
        split at h
        · cases h
        · next h3 => cases h; exact hr _ _ _ _ _ h3 j2

/-- `J` is kept by everything a step is made of. -/
structure KeptByStep (J : State → Prop) : Prop extends Kept J where
  stop : ∀ s, J s → J (stopRun s)
  clearNmi : ∀ s, J s → J (s.setPpu { s.ppu with nmiPending := false })

/-- The NMI poll keeps what everything a step is made of keeps. -/
theorem pollNmi_keeps {J : State → Prop} (hJ : KeptByStep J) {s : State} (hs : J s) : J (pollNmi s) := by
  unfold pollNmi
  split
  · exact hJ.regs _ _ rfl (hJ.time 2 _ (trapEntry_keeps hJ.toKept _ _ (hJ.clearNmi s hs)))
  · exact hs

/-- What everything a step is made of keeps, every step keeps. -/
theorem step_keeps {J : State → Prop} (hJ : KeptByStep J) {s t : State} (hs : J s) (h : step s = .next t) : J t := by
  rcases step_next h with rfl | rfl | ⟨i, d, s1, hf, hd, he⟩
  · exact hs
  · exact hJ.stop s hs
  · exact run_keeps hJ.toKept d s1 t (fetch_keeps hJ.read hf (pollNmi_keeps hJ hs)) (exec_eq_run hd s1 ▸ he)

/-! ### The stored bits 4 and 5 of P, the cartridge and the parameters -/

/-- Polling the NMI writes no field of P but I (60_exceptions.md R223). -/
theorem flag_pollNmi {f : Flag} (hi : f ≠ .i) (s : State) : (pollNmi s).flag f = s.flag f := by
  unfold pollNmi
  split
  · exact ((steady_flag f).time _ _).trans (flag_trapEntry hi _ _ _)
  · rfl

/-- A fetch changes no field of P. -/
theorem flag_fetch (f : Flag) {s t : State} {i : Instr} (h : fetch s = .ok i t) : t.flag f = s.flag f :=
  fetch_keeps (J := fun u => u.flag f = s.flag f)
    (fun _ _ _ u v hr hu => ((steady_flag f).access u v (busRead_onlyDevices hr).toRam).trans hu) h rfl

/-- A field of P other than I that no instruction writes is the same before and after every step. -/
theorem step_flag {f : Flag} (hi : f ≠ .i) (hf : ∀ mn, f ∉ writtenFlags mn) {s t : State} (h : step s = .next t) :
    getFlag f t.p = getFlag f s.p := by
  rcases step_next h with rfl | rfl | ⟨i, d, s1, hfetch, hd, he⟩
  · rfl
  · rfl
  · calc getFlag f t.p = s1.flag f := exec_flag hd he (hf _)
      _ = (pollNmi s).flag f := flag_fetch f hfetch
      _ = getFlag f s.p := flag_pollNmi hi s

/-- The stored bits 4 and 5 of P are the same before and after every step (10_state.md R32). -/
theorem step_breakBits {s t : State} (h : step s = .next t) :
    getFlag .b1 t.p = getFlag .b1 s.p ∧ getFlag .b2 t.p = getFlag .b2 s.p :=
  ⟨step_flag (by decide) (fun _ => breakBits_not_written.1) h, step_flag (by decide) (fun _ => breakBits_not_written.2) h⟩

/-- Nothing a step is made of changes the cartridge or the parameters (20_memory.md R51, R52). -/
theorem keptByStep_cart_params (c : Cartridge) (q : Params) : KeptByStep (fun s => s.cart = c ∧ s.params = q) where
  regs s t h hs := by rw [h]; exact hs
  read _ _ _ s t h hs := by rw [(busRead_onlyDevices h).cart, (busRead_onlyDevices h).params]; exact hs
  write _ _ _ s t h hs := by rw [(busWrite_onlyRamAndDevices h).cart, (busWrite_onlyRamAndDevices h).params]; exact hs
  push _ _ hs := hs
  time n s hs := by rw [tick_cart, tick_params]; exact hs
  stop _ hs := hs
  clearNmi _ hs := hs

/-- Settles O57: no instruction writes bits 4 and 5, the NMI poll writes only I, and no operation writes the cartridge. -/
theorem breakBitsNeverChange : Obligations.BreakBitsNeverChange := by
  intro s t h
  obtain ⟨hb1, hb2⟩ := step_breakBits h
  obtain ⟨hcart, hparams⟩ := step_keeps (keptByStep_cart_params s.cart s.params) ⟨rfl, rfl⟩ h
  exact ⟨hb1, hb2, hcart, hparams⟩

/-! ### The bus and time do not see P -/

section
variable {pc0 a : Word} {v : Byte} {s t : State} (p : Byte)

theorem busRead_setP (h : busRead pc0 a s = .ok v t) : busRead pc0 a (s.setP p) = .ok v (t.setP p) := by
  unfold busRead portRead ioRead at h ⊢
  cases ho : ownerOf a with
  | ram | prgRom => rw [ho] at h; cases h; rfl
  | unmapped => rw [ho] at h; cases h
  | ppuPort => cases hp : portOf a <;> rw [ho, hp] at h <;> cases h <;> rfl
  | io => cases hp : ioRegOf a <;> rw [ho, hp] at h <;> cases h <;> rfl

theorem dmaCopy_setP {page : Byte} {n : Nat} (h : dmaCopy pc0 page n s = .ok () t) :
    dmaCopy pc0 page n (s.setP p) = .ok () (t.setP p) := by
  induction n generalizing s with
  | zero => cases h; rfl
  | succ k ih =>
    unfold dmaCopy at h ⊢
    split at h
    · cases h
    · next b s1 h1 => rw [busRead_setP p h1]; exact ih h

theorem busWrite_setP (h : busWrite pc0 a v s = .ok () t) : busWrite pc0 a v (s.setP p) = .ok () (t.setP p) := by
  unfold busWrite portWrite ioWrite at h ⊢
  cases ho : ownerOf a with
  | ram => rw [ho] at h; cases h; rfl
  | unmapped | prgRom => rw [ho] at h; cases h
  | ppuPort =>
    cases hp : portOf a <;> rw [ho, hp] at h
    case data =>
      dsimp only at h
      split at h
      · cases h
      · next hv => cases h; exact if_neg hv
    all_goals cases h <;> rfl
  | io =>
    cases hp : ioRegOf a <;> rw [ho, hp] at h
    case oamDma => exact dmaCopy_setP p h
    all_goals cases h; rfl

theorem tick_setP (n : Nat) (s : State) : tick n (s.setP p) = (tick n s).setP p := by
  unfold tick
  rw [apply_ite (State.setP p)]
  rfl

end

/-! ### The invariant -/

/-- The invariant of `s` but for bits 4 and 5 of P: the invariant of `s` with the P of reset. -/
def InvButStatus (s : State) : Prop := State.Inv (s.setP 0x20)

theorem State.Inv.butStatus {s : State} (h : State.Inv s) : InvButStatus s := State.Inv.setP h (by decide)

theorem InvButStatus.inv {s : State} (h : InvButStatus s) (hb : s.p &&& 0x30 = 0x20) : State.Inv s := { h with breakBits := hb }

/-- Everything a step is made of keeps the invariant but for bits 4 and 5 of P, which a register operation alone could change. -/
theorem keptByStep_invButStatus : KeptByStep InvButStatus where
  regs s t h hs := by rw [h]; exact { hs with }
  read _ _ _ s t h hs := busRead_inv hs (busRead_setP _ h)
  write _ _ _ s t h hs := busWrite_inv hs (busWrite_setP _ h)
  push v s hs := push_inv hs v
  time n s hs := by unfold InvButStatus; rw [← tick_setP]; exact tick_inv hs n
  stop s hs := { hs with }
  clearNmi s hs := State.Inv.setPpu hs { hs.ppu with }

/-- Settles O56: the memories, the PPU and the pads by the operations a step is made of, bits 4 and 5 of P by the flag frame. -/
theorem stepKeepsInv : Obligations.StepKeepsInv := by
  intro s t hs h
  have hbits : t.p &&& 0x30 = s.p &&& 0x30 := breakBits_eq.mpr (step_breakBits h)
  exact (step_keeps keptByStep_invButStatus hs.butStatus h).inv (hbits.trans hs.breakBits)

/-! ### Reset (10_state.md R42, R43; 70_reset_and_hazards.md R291, R292) -/

theorem Ppu.reset_inv : Ppu.Inv Ppu.reset :=
  ⟨by decide, by decide, by decide, by decide, by decide, by decide, by decide, by decide⟩

/-- A machine powered on with a cartridge in canonical form meets the invariant. -/
theorem powerOn_inv (params : Params) (startPc : Option Word) {c : Cartridge} (hprg : Memory.wf .prg c.prg = true)
    (hchr : Memory.wf .chr c.chr = true) : State.Inv (State.powerOn params startPc c) where
  ram := Memory.wf_nil .ram
  prg := hprg
  chr := hchr
  ppu := Ppu.reset_inv
  pad1 := Nat.zero_le 8
  pad2 := Nat.zero_le 8
  breakBits := (by decide : (0x24 : Byte) &&& 0x30 = 0x20)

/-- Settles O55: the reset machine's cartridge has nothing written. -/
theorem resetInv : Obligations.ResetInv := powerOn_inv _ _ (Memory.wf_nil .prg) (Memory.wf_nil .chr)

/-- The fields of P after reset. -/
theorem resetStatus_flags : getFlag .c 0x24 = false ∧ getFlag .z 0x24 = false ∧ getFlag .i 0x24 = true ∧ getFlag .d 0x24 = false ∧
    getFlag .b1 0x24 = false ∧ getFlag .b2 0x24 = true ∧ getFlag .v 0x24 = false ∧ getFlag .n 0x24 = false := by
  decide

theorem resetPc_some (w : Word) (c : Cartridge) : resetPc (some w) c = w := rfl

theorem resetPc_none (c : Cartridge) : resetPc none c = mk16 (prgByte c 0xFFFD) (prgByte c 0xFFFC) := rfl

/-- Settles O54: every register and device register is a literal of `State.powerOn`, `Ppu.reset` or `Pad.reset`; PC is `resetPc`. -/
theorem resetValues : Obligations.ResetValues := by
  constructor
  · intro params c startPc s
    refine ⟨rfl, rfl, rfl, rfl, rfl, resetStatus_flags, rfl, rfl, rfl, rfl, rfl, rfl, rfl, rfl, rfl, rfl, rfl, rfl, rfl, rfl, rfl, rfl, rfl,
      rfl, rfl, rfl, rfl, rfl, rfl, rfl, ?_, ?_⟩
    · rintro w rfl
      exact resetPc_some w c
    · rintro rfl
      exact resetPc_none c
  · exact ⟨_, _, _, rfl⟩

end Sys2Proof.Machine
end

section
/-! SUPPORT. The bus over all addresses (20_memory.md R46-R54): one rule per owner, the accesses that fault, OAM-DMA, and time. -/

namespace Sys2Proof.Machine

/-! ### One rule per owner (20_memory.md R46-R52) -/

section
variable (pc0 : Word) {a : Word} (v : Byte) (s : State)

theorem busWrite_ram (h : a.toNat < 0x2000) : busWrite pc0 a v s = .ok () (ramStore (ramIndex a) v s) := by
  simp only [busWrite, ownerOf_ram h]

theorem busWrite_prgRom (h : 0x8000 ≤ a.toNat) : busWrite pc0 a v s = .fault (.romWrite pc0 a v s.regs) := by
  simp only [busWrite, ownerOf_prgRom h]

theorem busRead_unmapped (h : 0x4020 ≤ a.toNat) (h' : a.toNat < 0x8000) :
    busRead pc0 a s = .fault (.unmappedAccess pc0 a none s.regs) := by
  simp only [busRead, ownerOf_unmapped h h']

theorem busWrite_unmapped (h : 0x4020 ≤ a.toNat) (h' : a.toNat < 0x8000) :
    busWrite pc0 a v s = .fault (.unmappedAccess pc0 a (some v) s.regs) := by
  simp only [busWrite, ownerOf_unmapped h h']

theorem busRead_ppuPort (h : 0x2000 ≤ a.toNat) (h' : a.toNat < 0x4000) : busRead pc0 a s = portRead pc0 a s := by
  simp only [busRead, ownerOf_ppuPort h h']

theorem busWrite_ppuPort (h : 0x2000 ≤ a.toNat) (h' : a.toNat < 0x4000) : busWrite pc0 a v s = portWrite pc0 a v s := by
  simp only [busWrite, ownerOf_ppuPort h h']

theorem busRead_io (h : 0x4000 ≤ a.toNat) (h' : a.toNat < 0x4020) : busRead pc0 a s = ioRead pc0 a s := by
  simp only [busRead, ownerOf_io h h']

theorem busWrite_io (h : 0x4000 ≤ a.toNat) (h' : a.toNat < 0x4020) : busWrite pc0 a v s = ioWrite pc0 a v s := by
  simp only [busWrite, ownerOf_io h h']

end

/-! ### Plain memory: RAM and PRG ROM (20_memory.md R48, R51, R61) -/

/-- A RAM cell after one cell was stored to. -/
theorem ramByte_ramStore (i : Nat) (v : Byte) (s : State) (k : Nat) :
    ramByte (ramStore i v s) k = if k = i then v else ramByte s k := by
  split
  · next h => subst h; exact Memory.read_write_same _ _ _ _
  · next h => exact Memory.read_write_ne _ (Ne.symm h) _ _

theorem ramIs_ramStore (i : Nat) (v : Byte) (s : State) : ramIs s (ramStore i v s) [(i, v)] := by
  constructor
  · intro c hc
    rw [List.mem_singleton.mp hc, ramByte_ramStore, if_pos rfl]
  · intro k hk
    rw [ramByte_ramStore, if_neg (by simpa using hk)]

/-- Settles O37: an address below 0x2000 is RAM, and reads and writes there go to the cell it folds to. -/
theorem ramAccess : Obligations.RamAccess := by
  intro pc0 a v s ha
  refine ⟨busRead_ram pc0 s ha, _, busWrite_ram pc0 v s ha, rfl, ramIs_ramStore _ _ _, fun b hb => ?_⟩
  rw [busRead_ram pc0 _ hb, ramByte_ramStore]
  rfl

theorem prgByte_one {c : Cartridge} (h : c.banks = .one) (a : Word) :
    prgByte c a = Memory.read .prg c.prg ((a.toNat - 0x8000) % 16384) := by
  simp only [prgByte, prgSize, h]

theorem prgByte_two {c : Cartridge} (h : c.banks = .two) (a : Word) :
    prgByte c a = Memory.read .prg c.prg (a.toNat - 0x8000) := by
  have hlt := a.isLt
  simp only [prgByte, prgSize, h, Nat.mod_eq_of_lt (show a.toNat - 0x8000 < 32768 by omega)]

/-- One bank is mirrored into both halves (20_memory.md R51). -/
theorem prgByte_mirror {c : Cartridge} (h : c.banks = .one) {a : Word} (ha : 0x8000 ≤ a.toNat) (ha' : a.toNat < 0xC000) :
    prgByte c (a + 0x4000) = prgByte c a := by
  have hadd : (a + 0x4000).toNat = a.toNat + 0x4000 := by bv_omega
  rw [prgByte_one h, prgByte_one h, hadd, show a.toNat + 0x4000 - 0x8000 = a.toNat - 0x8000 + 16384 by omega, Nat.add_mod_right]

/-- Settles O38: an address of 0x8000 or above is PRG ROM; one bank folds at 16384, two banks fill the 32768 addresses. -/
theorem prgRead : Obligations.PrgRead := by
  intro pc0 a s ha
  have hr : busRead pc0 a s = .ok (prgByte s.cart a) s := busRead_prgRom pc0 s ha
  refine ⟨fun h => by rw [hr, prgByte_one h], fun h => by rw [hr, prgByte_two h], fun h ha' => ⟨_, hr, ?_⟩⟩
  rw [busRead_prgRom pc0 s (by bv_omega), prgByte_mirror h ha ha']

/-- A read of plain memory returns its byte and changes nothing. -/
theorem busRead_plain (pc0 : Word) {a : Word} (s : State) (h : isPlain a = true) : busRead pc0 a s = .ok (plainByte s a) s := by
  simp only [isPlain, Bool.or_eq_true, decide_eq_true_eq] at h
  unfold plainByte
  split
  · next hr => exact busRead_ram pc0 s hr
  · next hr => exact busRead_prgRom pc0 s (h.resolve_left hr)

/-- What plain memory holds is the same in states with the same RAM and the same cartridge. -/
theorem plainByte_congr {s t : State} (hram : t.ram = s.ram) (hcart : t.cart = s.cart) (a : Word) : plainByte t a = plainByte s a := by
  simp only [plainByte, ramByte, hram, hcart]

/-! ### The accesses that fault, the registers without a device (20_memory.md R47, R50, R52; 60_exceptions.md R261, R262) -/

theorem portRead_writeOnly (pc0 : Word) {a : Word} (s : State) (h : a.toNat % 8 ∈ [0, 1, 3, 5, 6]) :
    portRead pc0 a s = .fault (.writeOnlyRead pc0 a s.regs) := by
  simp only [List.mem_cons, List.not_mem_nil, or_false] at h
  rcases h with h | h | h | h | h <;> simp only [portRead, portOf, h]

theorem portWrite_readOnly (pc0 : Word) {a : Word} (v : Byte) (s : State) (h : a.toNat % 8 = 2) :
    portWrite pc0 a v s = .fault (.readOnlyWrite pc0 a v s.regs) := by
  simp only [portWrite, portOf, h]

/-- OAM-DMA's register is write-only (20_memory.md R50). -/
theorem busRead_oamDma (pc0 : Word) {a : Word} (s : State) (h : a.toNat = 0x4014) :
    busRead pc0 a s = .fault (.writeOnlyRead pc0 a s.regs) := by
  simp only [busRead_io pc0 s (show 0x4000 ≤ a.toNat by omega) (by omega), ioRead, ioRegOf_eq_oamDma.mpr h]

/-- Settles O36: each range of addresses has one owner, and the owner's rule names the fault. -/
theorem accessFaults : Obligations.AccessFaults := by
  intro pc0 a v s
  refine ⟨fun h h' => ⟨busRead_unmapped pc0 s h h', busWrite_unmapped pc0 v s h h'⟩, busWrite_prgRom pc0 v s, fun h h' hp => ?_,
    busRead_oamDma pc0 s, fun h h' hp => ?_⟩
  · rw [busRead_ppuPort pc0 s h h', portRead_writeOnly pc0 s hp]
  · rw [busWrite_ppuPort pc0 v s h h', portWrite_readOnly pc0 v s hp]

theorem ioRegOf_pad2 {a : Word} (h : a.toNat = 0x4017) : ioRegOf a = .pad2 := by
  rw [show a = 0x4017 from BitVec.eq_of_toNat_eq h]; rfl

theorem ioRegOf_apu {a : Word} (hd : a.toNat ≠ 0x4014) (h1 : a.toNat ≠ 0x4016) (h2 : a.toNat ≠ 0x4017) : ioRegOf a = .apu := by
  unfold ioRegOf
  rw [if_neg fun h => hd (congrArg BitVec.toNat h), if_neg fun h => h1 (congrArg BitVec.toNat h),
    if_neg fun h => h2 (congrArg BitVec.toNat h)]

/-- Settles O45: the registers outside 0x4014, 0x4016 and 0x4017 are the APU's; joypad 2's port shares their write. -/
theorem apuRegisters : Obligations.ApuRegisters := by
  intro pc0 a v s h h' hd h1
  rw [busWrite_io pc0 v s h h', busRead_io pc0 s h h']
  by_cases h2 : a.toNat = 0x4017
  · exact ⟨by simp only [ioWrite, ioRegOf_pad2 h2], fun h3 => absurd h2 h3⟩
  · exact ⟨by simp only [ioWrite, ioRegOf_apu hd h1 h2], fun _ => by simp only [ioRead, ioRegOf_apu hd h1 h2]; rfl⟩

/-! ### OAM-DMA (20_memory.md R54) -/

@[simp] theorem ppuWriteOamData_oamAddr (b : Byte) (u : Ppu) : (ppuWriteOamData b u).oamAddr = u.oamAddr + 1 := rfl

/-- The OAM byte at the OAM address plus `i`, after the byte `b` was written at the OAM address, which then moved on by one. -/
theorem oam_ppuWriteOamData (b : Byte) (u : Ppu) (i : Byte) :
    Memory.read .oam (ppuWriteOamData b u).oam (u.oamAddr + i).toNat =
      if i = 0 then b else Memory.read .oam u.oam (u.oamAddr + i).toNat := by
  split
  · next h => rw [h, show u.oamAddr + 0 = u.oamAddr by bv_omega]; exact Memory.read_write_same _ _ _ _
  · next h => exact Memory.read_write_ne _ (by bv_omega) _ _

/-- The last `n` copies of OAM-DMA from a page of plain memory complete; they write `n` OAM bytes from the OAM address on and
advance the OAM address by `n`. -/
theorem dmaCopy_plain (pc0 : Word) {page : Byte} (hp : ∀ l : Byte, isPlain (mk16 page l) = true) {n : Nat} (hn : n ≤ 256) (s : State) :
    ∃ t, dmaCopy pc0 page n s = .ok () t ∧
      t = { s with ppu := { s.ppu with oam := t.ppu.oam, oamAddr := s.ppu.oamAddr + BitVec.ofNat 8 n } } ∧
      ∀ i : Byte, Memory.read .oam t.ppu.oam (s.ppu.oamAddr + i).toNat =
        if i.toNat < n then plainByte s (mk16 page (i - BitVec.ofNat 8 n))
        else Memory.read .oam s.ppu.oam (s.ppu.oamAddr + i).toNat := by
  induction n generalizing s with
  | zero => exact ⟨s, rfl, by simp, fun i => by simp⟩
  | succ n ih =>
    have hr := busRead_plain pc0 s (hp (BitVec.ofNat 8 (255 - n)))
    generalize hb : plainByte s (mk16 page (BitVec.ofNat 8 (255 - n))) = b at hr
    obtain ⟨t, hcopy, hframe, hoam⟩ := ih (by omega) (s.setPpu (ppuWriteOamData b s.ppu))
    have hsucc : s.ppu.oamAddr + 1 + BitVec.ofNat 8 n = s.ppu.oamAddr + BitVec.ofNat 8 (n + 1) := by bv_omega
    refine ⟨t, by simp only [dmaCopy, hr, hcopy], hsucc ▸ hframe, fun i => ?_⟩
    have haddr : s.ppu.oamAddr + 1 + (i - 1) = s.ppu.oamAddr + i := by bv_omega
    have hi := hoam (i - 1)
    simp only [State.setPpu_ppu, ppuWriteOamData_oamAddr, haddr, oam_ppuWriteOamData,
      plainByte_congr (State.setPpu_ram _ s) (State.setPpu_cart _ s)] at hi
    rw [hi]
    by_cases h0 : i = 0
    · subst h0
      have hlast : ¬ (0 - 1 : Byte).toNat < n := Nat.not_lt.mpr (Nat.le_of_succ_le_succ hn)
      have hoff : (0 : Byte) - BitVec.ofNat 8 (n + 1) = BitVec.ofNat 8 (255 - n) := by
        apply BitVec.eq_of_toNat_eq
        simp only [BitVec.ofNat_eq_ofNat, BitVec.toNat_sub, BitVec.toNat_ofNat]
        omega
      rw [if_neg hlast, if_pos rfl, if_pos (show (0 : Byte).toNat < n + 1 from Nat.succ_pos n), hoff, hb]
    · have hpred : (i - 1).toNat = i.toNat - 1 := by bv_omega
      have hpos : 0 < i.toNat := by bv_omega
      have hoff : i - 1 - BitVec.ofNat 8 n = i - BitVec.ofNat 8 (n + 1) := by
        rw [BitVec.ofNat_add]
        bv_omega
      rw [hpred, if_neg h0, hoff]
      congr 1
      rw [eq_iff_iff]
      omega

/-- OAM-DMA stops at the first byte of the page whose read faults. -/
theorem dmaCopy_fault_eq {pc0 : Word} {page : Byte} {n i : Nat} {f : Fault} (s : State) (hi : 256 - n ≤ i) (hi' : i < 256)
    (hpre : ∀ j < i, readable (mk16 page (BitVec.ofNat 8 j)) = true)
    (hf : ∀ t, OnlyDevices s t → busRead pc0 (mk16 page (BitVec.ofNat 8 i)) t = .fault f) : dmaCopy pc0 page n s = .fault f := by
  induction n generalizing s with
  | zero => omega
  | succ k ih =>
    by_cases hk : 255 - k = i
    · simp only [dmaCopy, hk, hf s (OnlyDevices.refl s)]
    · obtain ⟨b, s1, h1⟩ := (busRead_ok_iff pc0 _ s).mpr (hpre (255 - k) (by omega))
      have hd : OnlyDevices s (s1.setPpu (ppuWriteOamData b s1.ppu)) := (busRead_onlyDevices h1).trans (OnlyDevices.setPpu _ _)
      simp only [dmaCopy, h1]
      exact ih _ (by omega) fun t ht => hf t (hd.trans ht)

theorem OnlyDevices.regs {s t : State} (h : OnlyDevices s t) : t.regs = s.regs := by rw [h]; rfl

theorem busWrite_oamDma (pc0 : Word) (v : Byte) (s : State) : busWrite pc0 0x4014 v s = dmaCopy pc0 v 256 s := by
  rw [busWrite_io pc0 v s (by decide) (by decide), ioWrite, ioRegOf_eq_oamDma.mpr (by decide)]

/-- A page below 0x20 is RAM, a page of 0x80 or above is PRG ROM. -/
theorem isPlain_page {page : Byte} (h : page.toNat < 0x20 ∨ 0x80 ≤ page.toNat) (l : Byte) : isPlain (mk16 page l) = true := by
  have hl := l.isLt
  simp only [isPlain, mk16_toNat, Bool.or_eq_true, decide_eq_true_eq]
  omega

/-- Settles O44: the copies from a plain page complete and leave the memory they read; any other page stops at its first unreadable byte. -/
theorem oamDma : Obligations.OamDma := by
  intro pc0 v s
  have hfirst : (mk16 v 0).toNat = 256 * v.toNat := mk16_toNat v 0
  have hstop : ∀ {f}, (∀ t, OnlyDevices s t → busRead pc0 (mk16 v 0) t = .fault f) → dmaCopy pc0 v 256 s = .fault f :=
    dmaCopy_fault_eq (i := 0) s (by decide) (by decide) (fun _ hj => absurd hj (Nat.not_lt_zero _))
  rw [busWrite_oamDma]
  refine ⟨fun h => ?_, fun h h' => ?_, fun h => ?_, fun h h' => ?_⟩
  · obtain ⟨t, hcopy, hframe, hoam⟩ := dmaCopy_plain pc0 (isPlain_page h) (Nat.le_refl 256) s
    refine ⟨t, hcopy, ?_, fun i => ⟨_, busRead_plain pc0 s (isPlain_page h i), ?_⟩⟩
    · rw [show s.ppu.oamAddr + BitVec.ofNat 8 256 = s.ppu.oamAddr from BitVec.add_zero _] at hframe
      exact hframe
    · rw [hoam i, if_pos i.isLt, show i - BitVec.ofNat 8 256 = i from BitVec.sub_zero _]
  · refine hstop fun t ht => ?_
    rw [busRead_ppuPort pc0 t (by omega) (by omega), portRead_writeOnly pc0 t, ht.regs]
    rw [hfirst, show 256 * v.toNat % 8 = 0 by omega]
    decide
  · have hv : v = 0x40 := BitVec.eq_of_toNat_eq h
    subst hv
    refine dmaCopy_fault_eq (i := 0x14) s (by decide) (by decide) (fun j hj => ?_) fun t ht => ?_
    · have hj' : (mk16 0x40 (BitVec.ofNat 8 j)).toNat = 0x4000 + j := by
        simp only [mk16_toNat, BitVec.toNat_ofNat, Nat.mod_eq_of_lt (show j < 2 ^ 8 by omega)]
        rfl
      simp only [readable, hj', Bool.or_eq_true, decide_eq_true_eq]
      omega
    · rw [← ht.regs]
      exact busRead_oamDma pc0 t rfl
  · exact hstop fun t ht => by rw [busRead_unmapped pc0 t (by omega) (by omega), ht.regs]

/-! ### Time (20_memory.md R56; 60_exceptions.md R275) -/

/-- A Tick that does not make the NMI pending is the cycle total and the PPU's advance. -/
theorem tick_without_edge {n : Nat} {s : State} (h : ¬ (s.ppu.nmiPending = false ∧ (ppuAdvance (3 * n) s.ppu).nmiPending = true)) :
    tick n s = advanceTime n s := by
  unfold tick
  rw [if_neg (by simpa using h)]

/-- A Tick that makes the NMI pending runs the host frame. -/
theorem tick_with_edge {n : Nat} {s : State} (h : s.ppu.nmiPending = false) (h' : (ppuAdvance (3 * n) s.ppu).nmiPending = true) :
    tick n s = hostFrame (advanceTime n s) := by
  unfold tick
  rw [h, h']
  rfl

/-- Settles O47: the two branches of `tick`; the host frame's button bytes are the next two free bytes. -/
theorem tickAndHostFrame : Obligations.TickAndHostFrame := by
  intro n s
  exact ⟨tick_without_edge, fun h h' => ⟨_, _, tick_with_edge h h'⟩⟩

end Sys2Proof.Machine
end

section
/-! SUPPORT. What every executed instruction has done when its Tick begins, said once: the RAM cells it can have stored to, and, where its
bus accesses are to plain memory, that no device has changed. -/

namespace Sys2Proof.Machine

/-! ### States that differ in registers and RAM only -/

/-- `t` is `s` but for the registers, the running flag and RAM: no device and no time has changed. -/
def OnlyRegsAndRam (s t : State) : Prop :=
  t = { s with a := t.a, x := t.x, y := t.y, sp := t.sp, p := t.p, pc := t.pc, running := t.running, ram := t.ram }

theorem OnlyRegsAndRam.trans {s t u : State} (h : OnlyRegsAndRam s t) (h' : OnlyRegsAndRam t u) : OnlyRegsAndRam s u := by
  unfold OnlyRegsAndRam at *
  rw [h', h]

theorem OnlyRegs.trans {s t u : State} (h : OnlyRegs s t) (h' : OnlyRegs t u) : OnlyRegs s u := by
  unfold OnlyRegs at *
  rw [h', h]

theorem OnlyRegs.withRam {s t : State} (h : OnlyRegs s t) : OnlyRegsAndRam s t := by
  unfold OnlyRegsAndRam
  rw [h]

theorem OnlyRegs.ram {s t : State} (h : OnlyRegs s t) : t.ram = s.ram := by rw [h]

theorem OnlyRegsAndRam.push (v : Byte) (s : State) : OnlyRegsAndRam s (push v s) := rfl

theorem OnlyRegsAndRam.push16 (w : Word) (s : State) : OnlyRegsAndRam s (push16 w s) := (push _ s).trans (push _ _)

theorem OnlyRegs.setP (p : Byte) (s : State) : OnlyRegs s (s.setP p) := rfl

theorem OnlyRegs.setPc (w : Word) (s : State) : OnlyRegs s (s.setPc w) := rfl

theorem OnlyRegs.setRunning (b : Bool) (s : State) : OnlyRegs s (s.setRunning b) := rfl

theorem OnlyRegsAndRam.trapEntry (ret : Word) (st : Byte) (s : State) : OnlyRegsAndRam s (trapEntry ret st s) :=
  ((push16 ret s).trans (push st _)).trans (OnlyRegs.setP _ _).withRam

/-- A Tick does to the cycle total and the devices the same whatever the registers and RAM are. -/
theorem OnlyRegsAndRam.tick {s t : State} (h : OnlyRegsAndRam s t) (n : Nat) :
    OnlyRegsAndRam (tick n s) (tick n t) := by
  unfold OnlyRegsAndRam Machine.tick
  rw [h]
  split <;> rfl

section
variable {pc0 a : Word} {v : Byte} {s t : State}

/-- A read of plain memory that completes changes nothing (20_memory.md R61). -/
theorem busRead_plain_next (h : busRead pc0 a s = .ok v t) (hp : isPlain a = true) : t = s := by
  rw [busRead_plain pc0 s hp] at h
  cases h
  rfl

/-- A write to plain memory that completes changes RAM only: a write to PRG ROM faults (20_memory.md R52). -/
theorem busWrite_plain_next (h : busWrite pc0 a v s = .ok () t) (hp : isPlain a = true) : OnlyRegsAndRam s t := by
  simp only [isPlain, Bool.or_eq_true, decide_eq_true_eq] at hp
  rcases hp with hr | hr
  · rw [busWrite_ram pc0 v s hr] at h
    cases h
    rfl
  · rw [busWrite_prgRom pc0 v s hr] at h
    cases h

end

/-! ### The state in which the Tick begins -/

/-- What the instruction of descriptor `d` begun in `s` has done in the state `u` in which its Tick begins. -/
structure BeforeTick (d : Descriptor) (s u : State) : Prop where
  ram : ∀ k ∉ ramStores d s, ramByte u k = ramByte s k
  devices : (∀ a ∈ busAddresses d s, isPlain a = true) → OnlyRegsAndRam s u

/-- `t` is reached by a Tick from such a state. -/
def TicksFrom (d : Descriptor) (s t : State) : Prop := ∃ n u, t = tick n u ∧ BeforeTick d s u

theorem BeforeTick.of_onlyRegs {d : Descriptor} {s u : State} (h : OnlyRegs s u) : BeforeTick d s u :=
  ⟨fun k _ => ramByte_of_ram h.ram k, fun _ => h.withRam⟩

/-- An instruction with a memory mode other than JMP, JSR and NOP accesses its effective address (40_execute_and_addressing.md R125). -/
theorem busAddresses_mem {d : Descriptor} {m : MemMode} (hm : d.mode = .mem m) (hmn : d.mnemonic ∉ [.jmp, .jsr, .nop]) (s : State) :
    m.ea s ∈ busAddresses d s := by
  simp_all [busAddresses]

section
variable {d : Descriptor} {s t : State}

theorem runRead_ticksFrom {op : Byte → State → State} (ho : ∀ v s, OnlyRegs s (op v s)) (hmn : d.mnemonic ∉ [.jmp, .jsr, .nop])
    (h : runRead op d s = .next t) : TicksFrom d s t := by
  unfold runRead at h
  split at h
  case h_1 b1 _ =>
    cases h
    exact ⟨_, _, rfl, .of_onlyRegs ((OnlyRegs.setPc _ s).trans (ho b1 _))⟩
  case h_2 m hm =>
    obtain ⟨v, s1, h1, rfl⟩ := execRead_next h
    refine ⟨_, _, rfl, fun k _ => ?_, fun hp => ?_⟩
    · calc ramByte (op v s1) k = ramByte s1 k := ramByte_of_ram (ho v s1).ram k
        _ = ramByte s k := ramByte_of_ram (busRead_onlyDevices h1).ram k
    · rw [busRead_plain_next h1 (hp _ (busAddresses_mem hm hmn s))]
      exact ((OnlyRegs.setPc _ s).trans (ho v _)).withRam
  all_goals cases h

theorem runStore_ticksFrom {val : State → Byte} (hst : ramStores d s = storedAtEa d.mode s) (hmn : d.mnemonic ∉ [.jmp, .jsr, .nop])
    (h : runStore val d s = .next t) : TicksFrom d s t := by
  unfold runStore at h
  split at h
  case h_1 m hm =>
    obtain ⟨s1, h1, rfl⟩ := execStore_next h
    refine ⟨_, _, rfl, fun k hk => ?_, fun hp => ?_⟩
    · rw [hst, hm] at hk
      exact busWrite_ramByte h1 k hk
    · exact (OnlyRegs.setPc _ s).withRam.trans (busWrite_plain_next h1 (hp _ (busAddresses_mem hm hmn s)))
  all_goals cases h

theorem runModifyMem_ticksFrom {result : Byte → State → Byte} {before : Byte → State → State} {after : Byte → Byte → State → State}
    (hb : ∀ v s, OnlyRegs s (before v s)) (ha : ∀ v r s, OnlyRegs s (after v r s)) (hst : ramStores d s = storedAtEa d.mode s)
    (hmn : d.mnemonic ∉ [.jmp, .jsr, .nop]) (h : runModifyMem result before after d s = .next t) : TicksFrom d s t := by
  unfold runModifyMem at h
  split at h
  case h_1 m hm =>
    obtain ⟨v, s1, s2, h1, h2, rfl⟩ := execModify_next h
    refine ⟨_, _, rfl, fun k hk => ?_, fun hp => ?_⟩
    · rw [hst, hm] at hk
      calc ramByte (after v (result v s1) s2) k = ramByte s2 k := ramByte_of_ram (ha _ _ s2).ram k
        _ = ramByte (before v s1) k := busWrite_ramByte h2 k hk
        _ = ramByte s1 k := ramByte_of_ram (hb v s1).ram k
        _ = ramByte s k := ramByte_of_ram (busRead_onlyDevices h1).ram k
    · have hplain := hp _ (busAddresses_mem hm hmn s)
      rw [busRead_plain_next h1 hplain] at h2 ⊢
      exact (((OnlyRegs.setPc _ s).trans (hb v _)).withRam.trans (busWrite_plain_next h2 hplain)).trans (ha _ _ s2).withRam
  all_goals cases h

theorem runImplied_ticksFrom {op : State → State} (ho : BeforeTick d s (op (s.atNext 1))) (h : runImplied op d s = .next t) :
    TicksFrom d s t := by
  unfold runImplied at h
  split at h
  case h_1 => cases h; exact ⟨_, _, rfl, ho⟩
  all_goals cases h

theorem runModify_ticksFrom {acc : State → State} {result : Byte → State → Byte} {after : Byte → Byte → State → State}
    (hacc : OnlyRegs s (acc (s.atNext 1))) (ha : ∀ v r s, OnlyRegs s (after v r s)) (hst : ramStores d s = storedAtEa d.mode s)
    (hmn : d.mnemonic ∉ [.jmp, .jsr, .nop]) (h : runModify acc result noneBefore after d s = .next t) : TicksFrom d s t := by
  by_cases hm : d.mode = .acc
  · simp only [runModify, hm] at h
    cases h
    exact ⟨_, _, rfl, .of_onlyRegs hacc⟩
  · have hmem : runModifyMem result noneBefore after d s = .next t := by
      rw [← h]
      unfold runModify runModifyMem
      split <;> simp_all
    exact runModifyMem_ticksFrom (by intros; rfl) ha hst hmn hmem

theorem runBranch_ticksFrom {taken : State → Bool} (h : runBranch taken d s = .next t) : TicksFrom d s t := by
  unfold runBranch at h
  split at h
  case h_1 b1 _ =>
    obtain ⟨n, w, h'⟩ := execBranch_next (cycles := d.cycles) (taken := taken) (b1 := b1) (s := s)
    rw [h'] at h
    cases h
    exact ⟨_, _, rfl, .of_onlyRegs rfl⟩
  all_goals cases h

theorem runNop_ticksFrom (h : runNop d s = .next t) : TicksFrom d s t := by
  unfold runNop at h
  split at h <;> cases h <;> exact ⟨_, _, rfl, .of_onlyRegs rfl⟩

/-- JMP indirect's two reads of plain memory change nothing. -/
theorem indirectTarget_plain_next {pc0 addr w : Word} (h : indirectTarget pc0 addr s = .ok w t) (hlo : isPlain addr = true)
    (hhi : isPlain (indirectHigh addr) = true) : t = s := by
  simp only [indirectTarget, busRead_plain pc0 s hlo, busRead_plain pc0 s hhi] at h
  cases h
  rfl

theorem runJmp_ticksFrom (h : runJmp d s = .next t) : TicksFrom d s t := by
  unfold runJmp at h
  split at h
  case h_1 => cases h; exact ⟨_, _, rfl, .of_onlyRegs rfl⟩
  case h_2 addr hm =>
    unfold execJmpInd at h
    split at h
    · cases h
    · next w s1 h1 =>
      cases h
      refine ⟨_, _, rfl, fun k _ => ramByte_of_ram (indirectTarget_onlyDevices h1).ram k, fun hp => ?_⟩
      have hmem : ∀ a ∈ [addr, indirectHigh addr], isPlain a = true := by simpa only [busAddresses, hm] using hp
      rw [indirectTarget_plain_next h1 (hmem _ (by simp)) (hmem _ (by simp))]
      rfl
  all_goals cases h

/-- A push stores to the one cell SP designates. -/
theorem push_beforeTick (hst : ramStores d s = [stackIndex s.sp]) (v : Byte) : BeforeTick d s (push v (s.atNext 1)) := by
  refine ⟨fun k hk => ?_, fun _ => rfl⟩
  rw [hst, List.mem_singleton] at hk
  exact (ramByte_push v (s.atNext 1) k).trans (if_neg hk)

theorem opJsr_beforeTick (hst : ramStores d s = [stackIndex s.sp, stackIndex (s.sp - 1)]) (addr : Word) :
    BeforeTick d s (opJsr addr (s.atNext 3)) := by
  have hjump : OnlyRegs (push16 _ (s.atNext 3)) (opJsr addr (s.atNext 3)) := .setPc _ _
  refine ⟨fun k hk => ?_, fun _ => ((OnlyRegs.setPc _ s).withRam.trans (.push16 _ _)).trans hjump.withRam⟩
  simp only [hst, List.mem_cons, List.not_mem_nil, or_false, not_or] at hk
  obtain ⟨hhi, hlo⟩ := hk
  rw [ramByte_of_ram hjump.ram, ramByte_push16, State.atNext_sp, if_neg hlo, if_neg hhi]
  rfl

theorem runJsr_ticksFrom (hst : ramStores d s = [stackIndex s.sp, stackIndex (s.sp - 1)]) (h : runJsr d s = .next t) :
    TicksFrom d s t := by
  unfold runJsr at h
  split at h
  case h_1 addr _ => cases h; exact ⟨_, _, rfl, opJsr_beforeTick hst addr⟩
  all_goals cases h

/-- BRK stores to the three cells of its trap frame (42_control_flow.md R162). -/
theorem opBrk_beforeTick (hst : ramStores d s = [stackIndex s.sp, stackIndex (s.sp - 1), stackIndex (s.sp - 2)]) :
    BeforeTick d s (opBrk (s.atNext 1)) := by
  obtain ⟨ret, st, hend⟩ : ∃ ret st, OnlyRegs (trapEntry ret st (s.atNext 1)) (opBrk (s.atNext 1)) := by
    rcases opBrk_cases (s.atNext 1) with e | e <;> rw [e]
    · exact ⟨_, _, .setPc _ _⟩
    · exact ⟨_, _, .setRunning _ _⟩
  refine ⟨fun k hk => ?_, fun _ => ((OnlyRegs.setPc _ s).withRam.trans (.trapEntry _ _ _)).trans hend.withRam⟩
  simp only [hst, List.mem_cons, List.not_mem_nil, or_false, not_or] at hk
  obtain ⟨hhi, hlo, hstatus⟩ := hk
  rw [ramByte_of_ram hend.ram, ramByte_trapEntry, State.atNext_sp, if_neg hstatus, if_neg hlo, if_neg hhi]
  rfl

/-- Every executed instruction ends with a Tick from a state that meets `BeforeTick`. -/
theorem run_ticksFrom (h : run d s = .next t) : TicksFrom d s t := by
  obtain ⟨mn, md, c, p⟩ := d
  cases mn with
  | adc | sbc | and | ora | eor | bit | cmp | cpx | cpy | lda | ldx | ldy | lax =>
    exact runRead_ticksFrom (by intros; rfl) (by simp) h
  | sta | stx | sty | sax => exact runStore_ticksFrom rfl (by simp) h
  | asl | lsr | rol | ror => exact runModify_ticksFrom (by rfl) (by intros; rfl) rfl (by simp) h
  | inc | dec | dcp | isb | slo | rla | sre | rra =>
    exact runModifyMem_ticksFrom (by intros; rfl) (by intros; rfl) rfl (by simp) h
  | bcc | bcs | beq | bmi | bne | bpl | bvc | bvs => exact runBranch_ticksFrom h
  | jmp => exact runJmp_ticksFrom h
  | jsr => exact runJsr_ticksFrom rfl h
  | nop => exact runNop_ticksFrom h
  | pha | php => exact runImplied_ticksFrom (push_beforeTick rfl _) h
  | brk => exact runImplied_ticksFrom (opBrk_beforeTick rfl) h
  | _ => exact runImplied_ticksFrom (.of_onlyRegs (by rfl)) h

end

/-- The same of an instruction that answers a next state. -/
theorem exec_ticksFrom {i : Instr} {d : Descriptor} {s t : State} (hd : descriptor i = some d) (h : exec i s = .next t) :
    TicksFrom d s t :=
  run_ticksFrom (exec_eq_run hd s ▸ h)

/-! ### The frames of memory and of everything else -/

/-- The cartridge, the parameters, the fault record and the stop request: what no instruction changes. -/
def State.runRecord (s : State) : Cartridge × Params × Option Fault × Bool := (s.cart, s.params, s.fault, s.stopRequest)

theorem steady_runRecord : Steady State.runRecord where
  time n s := by simp only [State.runRecord, tick_cart, tick_params, tick_fault, tick_stopRequest]
  access s t h := by simp only [State.runRecord, h.cart, h.params, h.fault, h.stopRequest]

theorem exec_runRecord {i : Instr} {d : Descriptor} {s t : State} (hd : descriptor i = some d) (h : exec i s = .next t) :
    t.cart = s.cart ∧ t.params = s.params ∧ t.fault = s.fault ∧ t.stopRequest = s.stopRequest := by
  have hrec : t.runRecord = s.runRecord := exec_same steady_runRecord hd h (Unwritten.leaves {})
  simpa only [State.runRecord, Prod.mk.injEq] using hrec

/-- An instruction changes no RAM cell but those it stores to. -/
theorem exec_ramByte {i : Instr} {d : Descriptor} {s t : State} (hd : descriptor i = some d) (h : exec i s = .next t) {k : Nat}
    (hk : k ∉ ramStores d s) : ramByte t k = ramByte s k := by
  obtain ⟨n, u, rfl, hu⟩ := exec_ticksFrom hd h
  exact (ramByte_of_ram (tick_ram n u) k).trans (hu.ram k hk)

/-- Settles O51: RAM by `BeforeTick.ram`, PRG ROM because no instruction changes the cartridge. -/
theorem memoryFrame : Obligations.MemoryFrame := by
  intro i d s t hd h
  refine ⟨fun k => exec_ramByte hd h, fun a _ hst => ?_⟩
  obtain ⟨hcart, -⟩ := exec_runRecord hd h
  unfold plainByte
  split
  · next hr => exact exec_ramByte hd h (hst hr)
  · rw [hcart]

/-- Settles O52: where only plain memory is accessed, the Tick begins in a state with the devices of `s`. -/
theorem deviceFrame : Obligations.DeviceFrame := by
  intro i d s t hd h
  obtain ⟨hcart, hparams, hfault, hstop⟩ := exec_runRecord hd h
  refine ⟨hcart, hparams, hfault, hstop, fun hp => ?_⟩
  obtain ⟨n, u, rfl, hu⟩ := exec_ticksFrom hd h
  have htick : OnlyRegsAndRam (tick n s) (tick n u) := (hu.devices hp).tick n
  exact ⟨n, by rw [htick, tick_cycles], by rw [htick], by rw [htick], by rw [htick], by rw [htick]⟩

end Sys2Proof.Machine
end

section
/-! SUPPORT. The acceptance of a cartridge image (20_memory.md R63, R64) as a conjunction, and the bytes an accepted image lays out. -/

namespace Sys2Proof.Machine

/-! ### The header's fields -/

theorem mapperNumber_eq_zero {byte6 byte7 : Byte} : mapperNumber byte6 byte7 = 0 ↔ byte7.toNat / 16 = 0 ∧ byte6.toNat / 16 = 0 := by
  have hhigh : ∀ b : Byte, b &&& 0xF0 = 0 ↔ b.toNat / 16 = 0 := by decide
  have hshift : byte6 >>> 4 = 0 ↔ byte6.toNat / 16 = 0 := by
    rw [← BitVec.toNat_inj, BitVec.toNat_ushiftRight, Nat.shiftRight_eq_div_pow]
    rfl
  unfold mapperNumber
  rw [← hhigh, ← hshift]
  exact BitVec.or_eq_zero_iff

theorem versionField_eq_two {byte7 : Byte} : (byte7 >>> 2) &&& 0x03 = 0x02 ↔ byte7.toNat / 4 % 4 = 2 := by
  revert byte7
  decide

theorem prgBanksOf_eq_some {byte4 : Byte} {banks : PrgBanks} :
    prgBanksOf byte4 = some banks ↔ (byte4.toNat = 1 ∨ byte4.toNat = 2) ∧ prgSize banks = 16384 * byte4.toNat := by
  unfold prgBanksOf
  split
  · next h => cases banks <;> simp [prgSize, h]
  · next h => cases banks <;> simp [prgSize, h]
  · next h1 h2 => simp [show byte4.toNat ≠ 1 from h1, show byte4.toNat ≠ 2 from h2]

/-- One and two PRG banks have their sizes. -/
theorem exists_prgSize {n : Nat} (h : n = 1 ∨ n = 2) : ∃ banks, prgSize banks = 16384 * n := by
  rcases h with rfl | rfl
  · exact ⟨.one, rfl⟩
  · exact ⟨.two, rfl⟩

theorem mirroring_eq_vertical {b : Bool} : (if b then Mirroring.vertical else .horizontal) = .vertical ↔ b = true := by
  cases b <;> decide

/-- The header `h` of a file of `fileLength` bytes passes the checks of R64 and fixes what `hd` holds (R63). -/
structure HeaderAccepted (h : List Byte) (fileLength : Nat) (hd : Header) : Prop where
  signature : h.take 4 = [0x4E, 0x45, 0x53, 0x1A]
  mapper : (h.getD 7 0).toNat / 16 = 0 ∧ (h.getD 6 0).toNat / 16 = 0
  version : (h.getD 7 0).toNat / 4 % 4 ≠ 2
  prgBanks : (h.getD 4 0).toNat = 1 ∨ (h.getD 4 0).toNat = 2
  chrBank : (h.getD 5 0).toNat = 1
  fourScreen : bitAt 3 (h.getD 6 0) = false
  length : prgOffset hd.trainer + prgSize hd.banks + 8192 ≤ fileLength
  size : prgSize hd.banks = 16384 * (h.getD 4 0).toNat
  trainer : hd.trainer = bitAt 2 (h.getD 6 0)
  mirroring : hd.mirroring = if bitAt 0 (h.getD 6 0) then .vertical else .horizontal

/-- A check that refuses when `p` holds is passed exactly when `p` does not hold and the rest is passed. -/
theorem refuseIf_eq_ok {ε α : Type} {p : Prop} [Decidable p] {e : ε} {rest : Except ε α} {x : α} :
    (if p then .error e else rest) = .ok x ↔ ¬ p ∧ rest = .ok x := by
  split <;> simp [*]

theorem acceptHeader_eq_ok {h : List Byte} {fileLength : Nat} {hd : Header} :
    acceptHeader h fileLength = .ok hd ↔ HeaderAccepted h fileLength hd := by
  simp only [acceptHeader, refuseIf_eq_ok, not_not]
  constructor
  · rintro ⟨hsig, hmap, hver, hrest⟩
    split at hrest
    · cases hrest
    next banks hbanks =>
    simp only [refuseIf_eq_ok, not_not] at hrest
    obtain ⟨hchr, hfour, hlen, heq⟩ := hrest
    obtain ⟨hcount, hsize⟩ := prgBanksOf_eq_some.mp hbanks
    cases heq
    exact {
      signature := hsig
      mapper := mapperNumber_eq_zero.mp hmap
      version := mt versionField_eq_two.mpr hver
      prgBanks := hcount
      chrBank := congrArg BitVec.toNat hchr
      fourScreen := Bool.eq_false_of_not_eq_true hfour
      length := Nat.le_of_not_lt hlen
      size := hsize
      trainer := rfl
      mirroring := rfl }
  · rintro ⟨hsig, hmap, hver, hcount, hchr, hfour, hlen, hsize, htrainer, hmirroring⟩
    obtain ⟨banks, mirroring, trainer⟩ := hd
    dsimp only at hlen hsize htrainer hmirroring
    subst htrainer hmirroring
    refine ⟨hsig, mapperNumber_eq_zero.mpr hmap, mt versionField_eq_two.mp hver, ?_⟩
    rw [prgBanksOf_eq_some.mpr ⟨hcount, hsize⟩]
    simp only [refuseIf_eq_ok, not_not]
    exact ⟨BitVec.eq_of_toNat_eq hchr, Bool.eq_false_iff.mp hfour, Nat.not_lt.mpr hlen, rfl⟩

/-- The header's bytes are the image's first bytes. -/
theorem acceptHeader_take (image : List Byte) (n : Nat) : acceptHeader (image.take 16) n = acceptHeader image n := by
  have hbyte : ∀ {k : Nat}, k < 16 → (image.take 16).getD k 0 = image.getD k 0 := fun hk => by
    simp only [List.getD_eq_getElem?_getD, List.getElem?_take_of_lt hk]
  have hsig : (image.take 16).take 4 = image.take 4 := by rw [List.take_take]; rfl
  simp only [acceptHeader, hsig, hbyte (show 4 < 16 by decide), hbyte (show 5 < 16 by decide), hbyte (show 6 < 16 by decide),
    hbyte (show 7 < 16 by decide)]

/-! ### The cartridge -/

/-- The cartridge laid out from an image whose header is accepted (R63). -/
def Header.cartridge (image : List Byte) (hd : Header) : Cartridge :=
  let prg := image.drop (prgOffset hd.trainer)
  ⟨hd.banks, cellsOfBytes (prg.take (prgSize hd.banks)), cellsOfBytes ((prg.drop (prgSize hd.banks)).take 8192), hd.mirroring⟩

theorem configure_eq_ok {image : List Byte} {c : Cartridge} :
    configure image = .ok c ↔ ∃ hd, HeaderAccepted image image.length hd ∧ c = hd.cartridge image := by
  simp only [← acceptHeader_eq_ok]
  unfold configure
  rw [acceptHeader_take]
  cases acceptHeader image image.length with
  | error e => simp
  | ok hd => simp [Header.cartridge, eq_comm]

/-- A list laid out from index `lo` on holds its `k`-th byte at index `lo + k`. -/
theorem cellsGet_zipIdx (bs : List Byte) (lo k : Nat) :
    cellsGet (lo + k) ((bs.zipIdx lo).map fun c => (c.2, c.1)) = bs[k]? := by
  induction bs generalizing lo k with
  | nil => rfl
  | cons b t ih =>
    cases k with
    | zero => simp [cellsGet]
    | succ k =>
      have hne : ¬ lo = lo + (k + 1) := by omega
      have hnext : lo + (k + 1) = lo + 1 + k := by omega
      rw [List.zipIdx_cons, List.map_cons, cellsGet, if_neg hne, hnext, ih, List.getElem?_cons_succ]

/-- An interval of an image laid out as cells reads back as the image's bytes. -/
theorem read_cellsOfBytes (st : Storage) {image : List Byte} {start size k : Nat} (hk : k < size)
    (hlen : start + size ≤ image.length) :
    Memory.read st (cellsOfBytes ((image.drop start).take size)) k = image.getD (start + k) 0 := by
  have hcell := cellsGet_zipIdx ((image.drop start).take size) 0 k
  rw [Nat.zero_add] at hcell
  have hin : start + k < image.length := by omega
  have hbyte : ((image.drop start).take size)[k]? = some image[start + k] := by
    rw [List.getElem?_take_of_lt hk, List.getElem?_drop, List.getElem?_eq_getElem hin]
  rw [Memory.read, cellsOfBytes, hcell, hbyte, List.getD_eq_getElem _ _ hin]
  rfl

/-- Settles O58: `acceptHeader` passes exactly the conditions of R64, and the cells of an accepted image read back as its bytes. -/
theorem cartridgeAcceptance : Obligations.CartridgeAcceptance := by
  intro image b start size
  refine ⟨⟨?_, ?_⟩, ?_⟩
  · rintro ⟨c, hc⟩
    obtain ⟨hd, h, -⟩ := configure_eq_ok.mp hc
    have hlen := h.length
    rw [h.trainer, h.size] at hlen
    exact ⟨h.signature, h.mapper.1, h.mapper.2, h.version, h.prgBanks, h.chrBank, h.fourScreen, hlen⟩
  · rintro ⟨hsig, hmap7, hmap6, hver, hprg, hchr, hfour, hlen⟩
    obtain ⟨banks, hsize⟩ := exists_prgSize hprg
    refine ⟨_, configure_eq_ok.mpr ⟨⟨banks, if bitAt 0 (b 6) then .vertical else .horizontal, bitAt 2 (b 6)⟩, ?_, rfl⟩⟩
    exact ⟨hsig, ⟨hmap7, hmap6⟩, hver, hprg, hchr, hfour, hsize ▸ hlen, hsize, rfl, rfl⟩
  · intro c hc
    obtain ⟨hd, h, rfl⟩ := configure_eq_ok.mp hc
    have hstart : prgOffset hd.trainer = start := congrArg prgOffset h.trainer
    have hsize : prgSize hd.banks = size := h.size
    have hlen : start + size + 8192 ≤ image.length := hstart ▸ hsize ▸ h.length
    refine ⟨?_, hsize, fun k hk => ?_, fun k hk => ?_⟩
    · show hd.mirroring = .vertical ↔ _
      rw [h.mirroring]
      exact mirroring_eq_vertical
    · simp only [Header.cartridge, hstart, hsize]
      exact read_cellsOfBytes .prg hk (by omega)
    · simp only [Header.cartridge, hstart, hsize, List.drop_drop]
      exact read_cellsOfBytes .chr hk hlen

end Sys2Proof.Machine
end

section
/-! SUPPORT. The decoder and the encoder against each other and against the opcode map (30_encoding.md R85-R92). A shape and a 16-bit
operand give one instruction and its operand bytes; the decoder reads exactly these pairs, and what holds of each of the 256 opcode bytes
is said once, in `shapeOf_encode_cell`. -/

namespace Sys2Proof.Machine

/-! ### The two bytes of a word (00_scope.md R7) -/

@[simp] theorem loByte_mk16 (h l : Byte) : loByte (mk16 h l) = l := BitVec.extractLsb'_append_eq_right

@[simp] theorem hiByte_mk16 (h l : Byte) : hiByte (mk16 h l) = h := BitVec.extractLsb'_append_eq_left

@[simp] theorem mk16_hiByte_loByte (w : Word) : mk16 (hiByte w) (loByte w) = w := by
  unfold mk16 hiByte loByte
  rw [BitVec.extractLsb'_append_extractLsb'_eq_extractLsb' (by rfl)]
  exact BitVec.extractLsb'_eq_self

end Sys2Proof.Machine

namespace Sys2Proof

open Machine

/-! ### What a shape makes of an operand -/

/-- The instruction a shape gives with the operand `(b2, b1) = w`; a one-byte operand is the low byte (R86, R87). -/
@[simp] def Shape.instr (sh : Shape) (w : Word) : Instr :=
  match sh with
  | .op0 i => i
  | .op1 f => f (loByte w)
  | .op2 f => f w

/-- The operand bytes a shape takes from the operand `w`, low byte first (R86). -/
@[simp] def Shape.operands (sh : Shape) (w : Word) : List Byte :=
  match sh with
  | .op0 _ => []
  | .op1 _ => [loByte w]
  | .op2 _ => [loByte w, hiByte w]

/-- Any two bytes hold the operand bytes of every shape. -/
theorem Shape.operands_of_two_bytes (sh : Shape) (b1 b2 : Byte) : ∃ rest, [b1, b2] = sh.operands (mk16 b2 b1) ++ rest := by
  cases sh with
  | op0 _ => exact ⟨[b1, b2], rfl⟩
  | op1 _ => exact ⟨[b2], by simp⟩
  | op2 _ => exact ⟨[], by simp⟩

/-- The decoder reads an opcode byte and the operand bytes of its shape as the shape's instruction. -/
theorem decode_operands (opc : Byte) (w : Word) (rest : List Byte) :
    decode (opc :: ((shapeOf opc).operands w ++ rest)) = .ok ((shapeOf opc).instr w, rest) := by
  cases h : shapeOf opc <;> simp [decode, h]

/-- Nothing else decodes: bytes with an answer begin with an opcode byte and the operand bytes of its shape. -/
theorem decode_eq_ok {bs rest : List Byte} {i : Instr} :
    decode bs = .ok (i, rest) ↔ ∃ opc w, bs = opc :: ((shapeOf opc).operands w ++ rest) ∧ i = (shapeOf opc).instr w := by
  refine ⟨fun h => ?_, fun ⟨opc, w, hbs, hi⟩ => hbs ▸ hi ▸ decode_operands opc w rest⟩
  unfold decode at h
  split at h
  · cases h
  · next opc bs =>
    refine ⟨opc, ?_⟩
    split at h
    · next hsh => cases h; exact ⟨0, by simp [hsh]⟩
    · next hsh =>
      split at h
      · next b1 _ => cases h; exact ⟨mk16 0 b1, by simp [hsh]⟩
      · cases h
    · next hsh =>
      split at h
      · next b1 b2 _ => cases h; exact ⟨mk16 b2 b1, by simp [hsh]⟩
      · cases h

/-! ### The table -/

/-- Mnemonic and mode of an instruction, none without a descriptor: what R88 writes in a cell. -/
def Instr.cell (i : Instr) : Option (Mnemonic × ModeKind) := (descriptor i).map fun d => (d.mnemonic, d.mode.kind)

theorem Instr.cell_eq_none {i : Instr} : i.cell = none ↔ descriptor i = none := Option.map_eq_none_iff

/-- The cell of an opcode byte in the map of R88: row of the high nibble, column of the low nibble. -/
def opcodeCell (opc : Byte) : Option (Mnemonic × ModeKind) := (opcodeMapRow (opc.toNat / 16)).getD (opc.toNat % 16) none

/-- The table, opcode byte by opcode byte: what its shape gives is encoded with this byte, and belongs in this byte's cell of R88. -/
theorem shapeOf_encode_cell (opc : Byte) (w : Word) :
    encode ((shapeOf opc).instr w) = opc :: (shapeOf opc).operands w ∧ ((shapeOf opc).instr w).cell = opcodeCell opc := by
  obtain ⟨n, hn, rfl⟩ : ∃ n < 256, opc = BitVec.ofNat 8 n := ⟨opc.toNat, opc.isLt, by simp⟩
  interval_cases n <;> exact ⟨rfl, rfl⟩

theorem encode_instr (opc : Byte) (w : Word) : encode ((shapeOf opc).instr w) = opc :: (shapeOf opc).operands w :=
  (shapeOf_encode_cell opc w).1

theorem cell_instr (opc : Byte) (w : Word) : ((shapeOf opc).instr w).cell = opcodeCell opc := (shapeOf_encode_cell opc w).2

/-- Decoding undoes encoding, for the refused bytes too. The 76 instructions with a two-byte operand put their word together again
(format F3 of R86); with one operand byte or none the decoder's answer is the instruction as it stands. -/
theorem decode_encode (i : Instr) (rest : List Byte) : decode (encode i ++ rest) = .ok (i, rest) := by
  cases i with
  | jsr w | jmpAbs w | jmpInd w
  | nop0C w | nop1C w | nop3C w | nop5C w | nop7C w | nopDC w | nopFC w
  | oraAbs w | oraAbx w | oraAby w | andAbs w | andAbx w | andAby w | eorAbs w | eorAbx w | eorAby w
  | adcAbs w | adcAbx w | adcAby w | sbcAbs w | sbcAbx w | sbcAby w | cmpAbs w | cmpAbx w | cmpAby w
  | ldaAbs w | ldaAbx w | ldaAby w | staAbs w | staAbx w | staAby w | ldxAbs w | ldxAby w | ldyAbs w | ldyAbx w
  | laxAbs w | laxAby w | stxAbs w | styAbs w | saxAbs w | bitAbs w | cpxAbs w | cpyAbs w
  | aslAbs w | aslAbx w | lsrAbs w | lsrAbx w | rolAbs w | rolAbx w | rorAbs w | rorAbx w
  | incAbs w | incAbx w | decAbs w | decAbx w
  | sloAbs w | sloAbx w | sloAby w | rlaAbs w | rlaAbx w | rlaAby w | sreAbs w | sreAbx w | sreAby w
  | rraAbs w | rraAbx w | rraAby w | dcpAbs w | dcpAbx w | dcpAby w | isbAbs w | isbAbx w | isbAby w =>
    exact decode_operands _ w rest
  | _ => rfl

/-- Every instruction is what some opcode byte's shape gives with some operand. -/
theorem exists_shapeOf (i : Instr) : ∃ opc w, i = (shapeOf opc).instr w := by
  obtain ⟨opc, w, -, hi⟩ := decode_eq_ok.mp (decode_encode i [])
  exact ⟨opc, w, hi⟩

/-- Settles O1: the statement holds of every instruction, refused bytes included (log 19). -/
theorem decodeOfEncode : Obligations.DecodeOfEncode := fun i rest _ => decode_encode i rest

/-- Settles O2: the bytes the decoder consumed are the opcode byte and the operand bytes that the table encodes. -/
theorem encodeOfDecode : Obligations.EncodeOfDecode := by
  intro bs i rest h
  obtain ⟨opc, w, rfl, rfl⟩ := decode_eq_ok.mp h
  rw [encode_instr, List.cons_append]

/-- Settles O5: the cell is the one the table gives the opcode byte, whatever operand the two other bytes hold. -/
theorem opcodeMap : Obligations.OpcodeMap := by
  intro opc b1 b2
  obtain ⟨rest, hbytes⟩ := (shapeOf opc).operands_of_two_bytes b1 b2
  exact ⟨_, rest, hbytes ▸ decode_operands opc _ rest, cell_instr opc _⟩

/-- Settles O4: each word is the encoding of its instruction. -/
theorem specWordsDecode : Obligations.SpecWordsDecode :=
  ⟨decode_encode (.adcImm 0x50) [], decode_encode (.adcIzy 0x10) [], decode_encode (.aslZp 0x10) [], decode_encode (.beq 0xFC) [],
    decode_encode (.jmpInd 0x02FF) [], decode_encode (.jsr 0x8020) [], decode_encode .brk [], decode_encode (.ldaAbx 0x02F0) [],
    decode_encode (.stxZpy 0xFF) [], decode_encode .pha [], decode_encode (.dcpZp 0x10) [], decode_encode (.sbcImmEB 0xF0) []⟩

end Sys2Proof

namespace Sys2Proof.Machine

/-! ### The refused opcodes (R90) -/

/-- Exactly the refused bytes have an empty cell in the map of R88. -/
theorem opcodeCell_eq_none : ∀ {opc : Byte}, opcodeCell opc = none ↔ opc ∈ refusedBytes := by decide

theorem descriptor_eq_none_iff (opc : Byte) (w : Word) : descriptor ((shapeOf opc).instr w) = none ↔ opc ∈ refusedBytes := by
  rw [← Instr.cell_eq_none, cell_instr, opcodeCell_eq_none]

/-- A refused byte takes no operand byte, and its meaning is the decode fault with pc0 and the byte. -/
theorem shapeOf_refused {opc : Byte} (h : opc ∈ refusedBytes) :
    ∃ i, shapeOf opc = .op0 i ∧ ∀ s, exec i s = .fault (.illegalOpcode s.pc opc s.regs) := by
  unfold refusedBytes at h
  fin_cases h <;> exact ⟨_, rfl, fun _ => rfl⟩

/-- `wellFormed` is the existence of a descriptor (40_execute_and_addressing.md R102). -/
theorem isSome_descriptor (i : Instr) : (descriptor i).isSome = i.wellFormed := by
  cases i <;> rfl

/-- An instruction without a descriptor is a refused byte alone, and its meaning is the decode fault. -/
theorem refused_of_no_descriptor {i : Instr} (h : descriptor i = none) :
    ∃ opc ∈ refusedBytes, encode i = [opc] ∧ ∀ s, exec i s = .fault (.illegalOpcode s.pc opc s.regs) := by
  obtain ⟨opc, w, rfl⟩ := exists_shapeOf i
  have hmem := (descriptor_eq_none_iff opc w).mp h
  obtain ⟨i, hsh, hexec⟩ := shapeOf_refused hmem
  have henc := encode_instr opc w
  rw [hsh] at henc ⊢
  exact ⟨opc, hmem, henc, hexec⟩

/-- An enabled step runs the instruction fetched after the NMI poll (40_execute_and_addressing.md R100). -/
theorem step_of_fetch {s s1 : State} {i : Instr} (hs : s.enabled) (hf : fetch (pollNmi s) = .ok i s1) : step s = exec i s1 := by
  obtain ⟨hfault, hrun, hstop⟩ := hs
  simp [step, hfault, hrun, hstop, hf]

/-- An opcode byte without operand bytes is fetched by one bus read. -/
theorem fetch_op0 {s s1 : State} {opc : Byte} {i : Instr} (hr : busRead s.pc s.pc s = .ok opc s1) (hsh : shapeOf opc = .op0 i) :
    fetch s = .ok i s1 := by
  simp [fetch, fetchOperands, hr, hsh]

/-- Settles O7: a refused byte's shape is its own one-byte instruction, so the fetch ends with the opcode read and `exec` faults. -/
theorem refusedOpcodes : Obligations.RefusedOpcodes := by
  refine ⟨fun i => ?_, fun i h => refused_of_no_descriptor h, fun opc rest i rest' h => ?_, fun s s1 opc hs hr hmem => ?_⟩
  · rw [← isSome_descriptor, Option.isSome_eq_false_iff, Option.isNone_iff_eq_none]
  · obtain ⟨_, w, hbs, rfl⟩ := decode_eq_ok.mp h
    cases hbs
    exact descriptor_eq_none_iff opc w
  · obtain ⟨i, hsh, hexec⟩ := shapeOf_refused hmem
    rw [step_of_fetch hs (fetch_op0 hr hsh), hexec, (busRead_onlyDevices hr).pc]

end Sys2Proof.Machine
end

section
/-! SUPPORT. Addresses as integers and the addressing modes in integer arithmetic (40_execute_and_addressing.md R111-R119). -/

namespace Sys2Proof.Machine

/-! ### Addresses as integers (00_scope.md R7, R8) -/

theorem hiByte_toNat (w : Word) : (hiByte w).toNat = w.toNat / 256 := by
  have hw := w.isLt
  simp only [hiByte, BitVec.extractLsb'_toNat, Nat.shiftRight_eq_div_pow]
  omega

theorem loByte_toNat (w : Word) : (loByte w).toNat = w.toNat % 256 := by
  simp only [loByte, BitVec.extractLsb'_toNat, Nat.shiftRight_zero]

theorem zext16_toNat (b : Byte) : (zext16 b).toNat = b.toNat := by
  have hb := b.isLt
  simp only [zext16, BitVec.toNat_setWidth]
  omega

/-- Adding an index register wraps at 65536 (40_execute_and_addressing.md R114, R118). -/
theorem add_zext16_toNat (w : Word) (b : Byte) : (w + zext16 b).toNat = (w.toNat + b.toNat) % 65536 := by
  rw [BitVec.toNat_add, zext16_toNat]

/-- Adding a signed offset wraps at 65536 (R115). -/
theorem add_sext16_toNat (w : Word) (b : Byte) : ((w + sext16 b).toNat : Int) = (w.toNat + b.toInt) % 65536 := by
  have hw := w.isLt
  have hb := b.isLt
  rw [BitVec.toNat_add, sext16, BitVec.toNat_signExtend, BitVec.toInt_eq_msb_cond, BitVec.toNat_setWidth]
  split <;> omega

/-- Two addresses have the same high byte when they lie in the same page. -/
theorem hiByte_eq_iff {v w : Word} : hiByte v = hiByte w ↔ v.toNat / 256 = w.toNat / 256 := by
  rw [← BitVec.toNat_inj, hiByte_toNat, hiByte_toNat]

/-- The stack byte's bus address, `0x0100 + SP` (R120, R121). -/
theorem stackAddress_eq (sp : Byte) : stackAddress sp = 0x0100 + zext16 sp := by
  have hsp := sp.isLt
  apply BitVec.eq_of_toNat_eq
  rw [add_zext16_toNat, stackAddress, mk16_toNat]
  show 256 * 1 + sp.toNat = (256 + sp.toNat) % 65536
  omega

/-! ### The memory modes (R111-R114, R117-R119) -/

theorem crossed_eq_decide (m : MemMode) (s : State) :
    m.crossed s = decide ((m.base s).toNat / 256 ≠ (m.ea s).toNat / 256) := by
  simp only [MemMode.crossed, bne, beq_eq_decide, hiByte_eq_iff, decide_not]

/-- A mode that adds nothing to its base crosses no page. -/
theorem crossed_eq_false {m : MemMode} {s : State} (h : m.ea s = m.base s) : m.crossed s = false := by
  simp only [MemMode.crossed, h, bne_self_eq_false]

/-- The page-zero pointer's two bytes are two bus reads, the second at the next address of page 0 (R117, R118). -/
theorem zpPointer_busReads (pc0 : Word) (z : Byte) (s : State) :
    ∃ lo hi, busRead pc0 (BitVec.ofNat 16 z.toNat) s = .ok lo s ∧
      busRead pc0 (BitVec.ofNat 16 ((z.toNat + 1) % 256)) s = .ok hi s ∧ (zpPointer z s).toNat = 256 * hi.toNat + lo.toNat := by
  have hread (b : Byte) : busRead pc0 (BitVec.ofNat 16 b.toNat) s = .ok (ramByte s b.toNat) s := by
    rw [BitVec.ofNat_toNat]
    exact zeroPage_is_busRead pc0 b s
  have hnext : (z.toNat + 1) % 256 = (z + 1).toNat := by bv_omega
  rw [hnext]
  exact ⟨_, _, hread z, hread (z + 1), mk16_toNat _ _⟩

/-- Settles O8: each mode's base and index as integers; the pointer's bytes are bus reads of page 0. -/
theorem effectiveAddresses : Obligations.EffectiveAddresses := by
  intro b1 addr pc0 s
  refine ⟨zext16_toNat b1, crossed_eq_false rfl, zext16_toNat _, crossed_eq_false rfl, zext16_toNat _, crossed_eq_false rfl,
    rfl, crossed_eq_false rfl, add_zext16_toNat _ _, crossed_eq_decide _ _, add_zext16_toNat _ _, crossed_eq_decide _ _, ?_, ?_,
    rfl, rfl, rfl, rfl, rfl⟩
  · obtain ⟨lo, hi, hlo, hhi, hptr⟩ := zpPointer_busReads pc0 (b1 + s.x) s
    rw [BitVec.toNat_add] at hlo hhi
    exact ⟨lo, hi, hlo, hhi, hptr, crossed_eq_false rfl⟩
  · obtain ⟨lo, hi, hlo, hhi, hptr⟩ := zpPointer_busReads pc0 b1 s
    have hpage : (256 * hi.toNat + lo.toNat) / 256 = hi.toNat := by omega
    refine ⟨lo, hi, hlo, hhi, ?_, ?_⟩
    · rw [← hptr]; exact add_zext16_toNat _ _
    · rw [crossed_eq_decide, ← hpage, ← hptr]; rfl

end Sys2Proof.Machine
end

section
/-! SUPPORT. JMP's two forms and the stack instructions (40_execute_and_addressing.md R116, R120, R121; 42_control_flow.md R159;
43_load_store_stack_flags.md R182-R185). -/

namespace Sys2Proof.Machine

/-! ### JMP -/

/-- The high byte's address stays in the pointer's page (R116). -/
theorem indirectHigh_toNat (addr : Word) :
    (indirectHigh addr).toNat = addr.toNat / 256 * 256 + (addr.toNat % 256 + 1) % 256 := by
  rw [indirectHigh, mk16_toNat, hiByte_toNat, BitVec.toNat_add, loByte_toNat, Nat.mul_comm]
  rfl

section
variable {addr : Word} {s s1 s2 : State} {lo hi : Byte} {f : Fault}

theorem execJmpInd_low_fault (hlo : busRead s.pc addr (s.atNext 3) = .fault f) : execJmpInd addr s = .fault f := by
  simp only [execJmpInd, indirectTarget, hlo]

theorem execJmpInd_high_fault (hlo : busRead s.pc addr (s.atNext 3) = .ok lo s1)
    (hhi : busRead s.pc (indirectHigh addr) s1 = .fault f) : execJmpInd addr s = .fault f := by
  simp only [execJmpInd, indirectTarget, hlo, hhi]

theorem execJmpInd_completes (hlo : busRead s.pc addr (s.atNext 3) = .ok lo s1)
    (hhi : busRead s.pc (indirectHigh addr) s1 = .ok hi s2) :
    execJmpInd addr s = .next (tick 5 (s2.setPc (mk16 hi lo))) := by
  simp only [execJmpInd, indirectTarget, hlo, hhi]

end

/-- Settles O17: JMP indirect is its two pointer reads, each of which completes exactly where its address is readable. -/
theorem jmpTargets : Obligations.JmpTargets := by
  refine ⟨fun addr s => ⟨rfl, rfl⟩, fun addr hiAddr s hhi => ?_⟩
  obtain rfl : hiAddr = indirectHigh addr := BitVec.eq_of_toNat_eq (hhi.trans (indirectHigh_toNat addr).symm)
  refine ⟨rfl, fun f hlo => execJmpInd_low_fault hlo, fun lo s1 f hlo hhi => execJmpInd_high_fault hlo hhi, fun hrlo hrhi => ?_⟩
  obtain ⟨lo, s1, hlo⟩ := (busRead_ok_iff s.pc addr (s.atNext 3)).mpr hrlo
  obtain ⟨hi, s2, hhi⟩ := (busRead_ok_iff s.pc (indirectHigh addr) s1).mpr hrhi
  exact ⟨lo, s1, hi, s2, hlo, hhi, execJmpInd_completes hlo hhi⟩

/-! ### The stack instructions -/

/-- A push stores its byte in the cell SP designates and leaves every other cell. -/
theorem ramIs_push (v : Byte) (s : State) : ramIs s (push v s) [(stackIndex s.sp, v)] := ramIs_ramStore (stackIndex s.sp) v s

/-- The generic update writes Z and N and nothing else (10_state.md R35). -/
theorem flagsAre_updateZN (r p : Byte) : flagsAre p (updateZN r p) (zn r) := by
  constructor
  · simp [zn, getFlag_updateZN]
  · intro f hf
    exact flag_updateZN hf r p

/-- Settles O21: both instructions are one push in the state whose PC is `next`. -/
theorem pushes : Obligations.Pushes := by
  refine ⟨fun pc0 v s => ?_, ⟨rfl, fun s => ?_⟩, rfl, fun s => ?_⟩
  · rw [← stackAddress_eq]
    exact push_is_busWrite pc0 v s
  · exact ⟨push s.a (s.atNext 1), rfl, rfl, ramIs_push s.a (s.atNext 1)⟩
  · exact ⟨push (breakStatus s.p) (s.atNext 1), rfl, rfl, ramIs_push (breakStatus s.p) (s.atNext 1)⟩

/-- Settles O22: both instructions are one pull in the state whose PC is `next`; PLP merges the byte with bits 4 and 5 of P. -/
theorem pulls : Obligations.Pulls := by
  refine ⟨fun pc0 s => ?_, fun s => ⟨rfl, rfl⟩, ⟨rfl, fun s => ?_⟩, rfl, fun s => ?_⟩
  · rw [← stackAddress_eq]
    exact pull_is_busRead pc0 s
  · exact ⟨_, rfl, flagsAre_updateZN _ s.p⟩
  · exact ⟨_, rfl, fun f => getFlag_mergeStatus f _ s.p⟩

end Sys2Proof.Machine
end

section
/-! SUPPORT. The fetch, byte by byte (40_execute_and_addressing.md R100, R101): the decoder's answer on a prefix of the instruction's bytes
fixes the opcode's shape, and the shape fixes which bytes are read. -/

namespace Sys2Proof

/-! ### The shape from the decoder's answer -/

section
variable {opc b1 b2 : Byte} {i : Instr}

theorem shapeOf_of_decode_one (h : decode [opc] = .ok (i, [])) : shapeOf opc = .op0 i := by
  cases hsh : shapeOf opc <;> simp_all [decode]

theorem shapeOf_of_decode_two (h : decode [opc, b1] = .ok (i, [])) : ∃ f, shapeOf opc = .op1 f ∧ f b1 = i := by
  cases hsh : shapeOf opc <;> simp_all [decode]

theorem shapeOf_of_decode_three (h : decode [opc, b1, b2] = .ok (i, [])) :
    ∃ f, shapeOf opc = .op2 f ∧ f (Machine.mk16 b2 b1) = i := by
  cases hsh : shapeOf opc <;> simp_all [decode]

theorem shapeOf_of_truncated_one (h : decode [opc] = .error .truncated) :
    (∃ f, shapeOf opc = .op1 f) ∨ ∃ f, shapeOf opc = .op2 f := by
  cases hsh : shapeOf opc <;> simp_all [decode]

theorem shapeOf_of_truncated_two (h : decode [opc, b1] = .error .truncated) : ∃ f, shapeOf opc = .op2 f := by
  cases hsh : shapeOf opc <;> simp_all [decode]

end

end Sys2Proof

namespace Sys2Proof.Machine

/-! ### The fetch reads -/

section
variable {s s1 s2 s3 : State} {opc b1 b2 : Byte} {e : Fault}

theorem fetch_opcode_fault (h0 : busRead s.pc s.pc s = .fault e) : fetch s = .fault e := by
  simp only [fetch, h0]

variable (h0 : busRead s.pc s.pc s = .ok opc s1)
include h0

/-- After the opcode read, PC is still at the opcode. -/
theorem fetch_eq_fetchOperands : fetch s = fetchOperands (shapeOf opc) s1 ∧ s1.pc = s.pc :=
  ⟨by simp only [fetch, h0], (busRead_onlyDevices h0).pc⟩

theorem fetch_operand1_fault (hsh : (∃ f, shapeOf opc = .op1 f) ∨ ∃ f, shapeOf opc = .op2 f)
    (h1 : busRead s.pc (s.pc + 1) s1 = .fault e) : fetch s = .fault e := by
  obtain ⟨hf, hpc⟩ := fetch_eq_fetchOperands h0
  rcases hsh with ⟨f, hsh⟩ | ⟨f, hsh⟩ <;> simp only [hf, hsh, fetchOperands, hpc, h1]

variable (h1 : busRead s.pc (s.pc + 1) s1 = .ok b1 s2)
include h1

theorem fetch_op1 {f : Byte → Instr} (hsh : shapeOf opc = .op1 f) : fetch s = .ok (f b1) s2 := by
  obtain ⟨hf, hpc⟩ := fetch_eq_fetchOperands h0
  simp only [hf, hsh, fetchOperands, hpc, h1]

theorem fetch_operand2_fault {f : Word → Instr} (hsh : shapeOf opc = .op2 f)
    (h2 : busRead s.pc (s.pc + 2) s2 = .fault e) : fetch s = .fault e := by
  obtain ⟨hf, hpc⟩ := fetch_eq_fetchOperands h0
  simp only [hf, hsh, fetchOperands, hpc, h1, h2]

theorem fetch_op2 {f : Word → Instr} (hsh : shapeOf opc = .op2 f) (h2 : busRead s.pc (s.pc + 2) s2 = .ok b2 s3) :
    fetch s = .ok (f (mk16 b2 b1)) s3 := by
  obtain ⟨hf, hpc⟩ := fetch_eq_fetchOperands h0
  simp only [hf, hsh, fetchOperands, hpc, h1, h2]

end

/-- An enabled step whose fetch faults ends with that fault. -/
theorem step_of_fetch_fault {s : State} {e : Fault} (hs : s.enabled) (hf : fetch (pollNmi s) = .fault e) : step s = .fault e := by
  obtain ⟨hfault, hrun, hstop⟩ := hs
  simp [step, hfault, hrun, hstop, hf]

/-- Settles O9: the decoder's answer fixes the shape, the shape the reads, and the step is the fetch after the NMI poll and then `exec`. -/
theorem stepRunsDecoded : Obligations.StepRunsDecoded := by
  rintro s u hs rfl
  refine ⟨fun e h0 => ?_, fun opc s1 i h0 hd => ?_, fun opc s1 e h0 hd h1 => ?_, fun opc s1 b1 s2 i h0 h1 hd => ?_,
    fun opc s1 b1 s2 e h0 h1 hd h2 => ?_, fun opc s1 b1 s2 b2 s3 i h0 h1 h2 hd => ?_⟩
  · exact step_of_fetch_fault hs (fetch_opcode_fault h0)
  · exact step_of_fetch hs (fetch_op0 h0 (shapeOf_of_decode_one hd))
  · exact step_of_fetch_fault hs (fetch_operand1_fault h0 (shapeOf_of_truncated_one hd) h1)
  · obtain ⟨f, hsh, rfl⟩ := shapeOf_of_decode_two hd
    exact step_of_fetch hs (fetch_op1 h0 h1 hsh)
  · obtain ⟨f, hsh⟩ := shapeOf_of_truncated_two hd
    exact step_of_fetch_fault hs (fetch_operand2_fault h0 h1 hsh h2)
  · obtain ⟨f, hsh, rfl⟩ := shapeOf_of_decode_three hd
    exact step_of_fetch hs (fetch_op2 h0 h1 hsh h2)

end Sys2Proof.Machine
end

section
/-! SUPPORT. What the table says of every instruction (40_execute_and_addressing.md R102, R105, R126), and the cycles each shape of
instruction takes (R123, R124), said once. -/

namespace Sys2Proof.Machine

/-! ### Lengths (R126) -/

/-- After its opcode byte, an instruction's encoding has the operand bytes of its mode. -/
theorem tail_encode {i : Instr} {d : Descriptor} (hd : descriptor i = some d) : (encode i).tail = d.mode.operandBytes := by
  cases i <;> cases hd <;> rfl

theorem Mode.length_eq (m : Mode) : m.length = 1 + m.operandBytes.length := by
  rcases m with _ | _ | _ | m | _ | _
  case mem => cases m <;> rfl
  all_goals rfl

theorem length_encode {i : Instr} {d : Descriptor} (hd : descriptor i = some d) : (encode i).length = d.mode.length := by
  obtain ⟨opc, w, rfl⟩ := exists_shapeOf i
  rw [Mode.length_eq, ← tail_encode hd, encode_instr, List.length_cons, List.tail_cons, Nat.add_comm]

/-- The length of a mode by its name. -/
def ModeKind.length (k : ModeKind) : Nat :=
  match k with
  | .imp | .acc => 1
  | .imm | .zp | .zpx | .zpy | .izx | .izy | .rel => 2
  | .abs | .abx | .aby | .ind => 3

theorem Mode.kind_length (m : Mode) : m.kind.length = m.length := by
  rcases m with _ | _ | _ | m | _ | _
  case mem => cases m <;> rfl
  all_goals rfl

/-- The modes of the control transfers, as the map of R88 has them. -/
theorem opcodeCell_controlFlow : ∀ (opc : Byte), ∀ c ∈ opcodeCell opc,
    (c.1 ∈ [.brk, .rti, .rts] → c.2.length = 1) ∧ (c.1 ∈ [.jsr, .jmp] → c.2.length = 3) ∧
      (c.1 ∈ [.bcc, .bcs, .beq, .bmi, .bne, .bpl, .bvc, .bvs] → c.2.length = 2) := by
  decide

theorem cell_of_descriptor {i : Instr} {d : Descriptor} (hd : descriptor i = some d) : i.cell = some (d.mnemonic, d.mode.kind) := by
  rw [Instr.cell, hd]; rfl

/-- Settles O3: the encoding is the opcode byte and the mode's operand bytes; a mnemonic's modes are those of its cells in R88. -/
theorem instructionLengths : Obligations.InstructionLengths := by
  intro i d hd
  have hlen := length_encode hd
  obtain ⟨opc, w, rfl⟩ := exists_shapeOf i
  obtain ⟨htrap, hjump, hbranch⟩ := opcodeCell_controlFlow opc _ ((cell_instr opc w).symm.trans (cell_of_descriptor hd))
  refine ⟨tail_encode hd, hlen.trans d.mode.length_eq, hlen, ?_⟩
  rw [hlen, ← Mode.kind_length]
  refine ⟨htrap, ?_, hjump, hbranch⟩
  rintro (h | h) <;> rw [h] <;> rfl

/-! ### Cycles (R123, R124) -/

/-- Every descriptor has the count and the page penalty of the table of R123. -/
theorem baseCount_descriptor {i : Instr} {d : Descriptor} (hd : descriptor i = some d) :
    baseCount d.mnemonic d.mode.kind = some (d.cycles, d.penalty) := by
  cases i <;> cases hd <;> rfl

/-- The cycles the instruction of descriptor `d` begun in `s` takes: base count, page crossing, taken branch (R105, R124). -/
def totalCycles (d : Descriptor) (s : State) : Nat :=
  d.cycles + (if d.penalty && d.mode.crossed s then 1 else 0) + takenCycles d s

/-- Without a page crossing and a taken branch, the base count is all. -/
theorem totalCycles_base {d : Descriptor} {s : State} (hcross : d.mode.crossed s = false) (htaken : takenCycles d s = 0) :
    totalCycles d s = d.cycles := by
  simp [totalCycles, hcross, htaken]

section
variable {mn : Mnemonic} {c : Nat} {p : Bool} (s : State)

theorem totalCycles_mem (m : MemMode) : totalCycles ⟨mn, .mem m, c, p⟩ s = memCycles c p m s := rfl
theorem totalCycles_mem_fixed (m : MemMode) : totalCycles ⟨mn, .mem m, c, false⟩ s = c := rfl
theorem totalCycles_rel (b1 : Byte) : totalCycles ⟨mn, .rel b1, c, p⟩ s = c + takenCycles ⟨mn, .rel b1, c, p⟩ s := by
  simp [totalCycles, Mode.crossed]

end

/-- A taken branch costs one cycle to the page of `next`, two to another page (R124). -/
theorem branchExtra_relTarget (next : Word) (b1 : Byte) :
    branchExtra next (next + sext16 b1) =
      if (next.toNat : Int) / 256 = ((next.toNat + b1.toInt) % 65536) / 256 then 1 else 2 := by
  have hpage : hiByte next = hiByte (next + sext16 b1) ↔ (next.toNat : Int) / 256 = ((next.toNat + b1.toInt) % 65536) / 256 := by
    rw [hiByte_eq_iff, ← add_sext16_toNat]
    omega
  simp only [branchExtra, bne_iff_ne, ne_eq, hpage, ite_not]
  split <;> rfl

/-- The rows of R123 for instructions that write at their effective address have no `+` mark. -/
theorem storeCount_penalty {k : ModeKind} {c : Nat} {p : Bool} (h : storeCount k = some (c, p)) : p = false := by
  cases k <;> cases h <;> rfl

theorem modifyCount_penalty {k : ModeKind} {c : Nat} {p : Bool} (h : modifyCount k = some (c, p)) : p = false := by
  cases k <;> cases h <;> rfl

theorem unofficialModifyCount_penalty {k : ModeKind} {c : Nat} {p : Bool} (h : unofficialModifyCount k = some (c, p)) :
    p = false := by
  cases k <;> cases h <;> rfl

section
variable {d : Descriptor} {s t : State}

theorem runRead_cycles {op : Byte → State → State} (ho : ∀ v s, (op v s).cycles = s.cycles) (h : runRead op d s = .next t) :
    t.cycles = s.cycles + totalCycles d s := by
  obtain ⟨mn, md, c, p⟩ := d
  cases md with
  | imm b1 => cases h; rw [tick_cycles, ho, totalCycles_base] <;> rfl
  | mem m =>
    obtain ⟨v, s1, h1, rfl⟩ := execRead_next h
    rw [tick_cycles, ho, (busRead_onlyDevices h1).cycles, totalCycles_mem]; rfl
  | _ => cases h

theorem runStore_cycles {val : State → Byte} (hp : d.penalty = false) (h : runStore val d s = .next t) :
    t.cycles = s.cycles + totalCycles d s := by
  obtain ⟨mn, md, c, p⟩ := d
  obtain rfl : p = false := hp
  cases md with
  | mem m =>
    obtain ⟨s1, h1, rfl⟩ := execStore_next h
    rw [tick_cycles, (busWrite_onlyRamAndDevices h1).cycles, totalCycles_mem_fixed]; rfl
  | _ => cases h

theorem runModifyMem_cycles {result : Byte → State → Byte} {before : Byte → State → State} {after : Byte → Byte → State → State}
    (hp : d.penalty = false) (hb : ∀ v s, (before v s).cycles = s.cycles) (ha : ∀ v r s, (after v r s).cycles = s.cycles)
    (h : runModifyMem result before after d s = .next t) : t.cycles = s.cycles + totalCycles d s := by
  obtain ⟨mn, md, c, p⟩ := d
  obtain rfl : p = false := hp
  cases md with
  | mem m =>
    obtain ⟨v, s1, s2, h1, h2, rfl⟩ := execModify_next h
    rw [tick_cycles, ha, (busWrite_onlyRamAndDevices h2).cycles, hb, (busRead_onlyDevices h1).cycles, totalCycles_mem_fixed]; rfl
  | _ => cases h

theorem runModify_cycles {acc : State → State} {result : Byte → State → Byte} {after : Byte → Byte → State → State}
    (hp : d.penalty = false) (hacc : d.mode = .acc → ∀ s, (acc s).cycles = s.cycles)
    (ha : ∀ v r s, (after v r s).cycles = s.cycles) (h : runModify acc result noneBefore after d s = .next t) :
    t.cycles = s.cycles + totalCycles d s := by
  obtain ⟨mn, md, c, p⟩ := d
  cases md with
  | acc => cases h; rw [tick_cycles, hacc rfl, totalCycles_base] <;> rfl
  | mem m => exact runModifyMem_cycles (result := result) (before := noneBefore) hp (fun _ _ => rfl) ha h
  | _ => cases h

theorem runImplied_cycles {op : State → State} (ho : ∀ s, (op s).cycles = s.cycles) (h : runImplied op d s = .next t) :
    t.cycles = s.cycles + totalCycles d s := by
  obtain ⟨mn, md, c, p⟩ := d
  cases md with
  | imp => cases h; rw [tick_cycles, ho, totalCycles_base] <;> rfl
  | _ => cases h

theorem runNop_cycles (h : runNop d s = .next t) : t.cycles = s.cycles + totalCycles d s := by
  obtain ⟨mn, md, c, p⟩ := d
  cases md with
  | imp => cases h; rw [tick_cycles, totalCycles_base] <;> rfl
  | imm b1 => cases h; rw [tick_cycles, totalCycles_base] <;> rfl
  | mem m => cases h; rw [tick_cycles, totalCycles_mem]; rfl
  | _ => cases h

/-- A branch whose condition is the mnemonic's test costs its base count, and the cycles of R124 when taken. -/
theorem runBranch_cycles {taken : State → Bool} {f : Flag} {b : Bool} (htest : branchTest d.mnemonic = some (f, b))
    (htaken : ∀ s, taken s = (getFlag f s.p == b)) (h : runBranch taken d s = .next t) :
    t.cycles = s.cycles + totalCycles d s := by
  obtain ⟨mn, md, c, p⟩ := d
  cases md with
  | rel b1 =>
    simp only [runBranch, execBranch, htaken, State.atNext_p, beq_iff_eq] at h
    simp only [totalCycles_rel, takenCycles, htest]
    split at h
    · next htk =>
      cases h
      rw [tick_cycles, if_pos htk]
      exact congrArg (fun n => s.cycles + (c + n)) (branchExtra_relTarget (s.pc + 2) b1)
    · next htk =>
      cases h
      rw [tick_cycles, if_neg htk]
      rfl
  | _ => cases h

/-- JMP's counts are those of its two rows of R123: it has no form but absolute and indirect. -/
theorem runJmp_cycles (hb : baseCount .jmp d.mode.kind = some (d.cycles, d.penalty)) (h : runJmp d s = .next t) :
    t.cycles = s.cycles + totalCycles d s := by
  obtain ⟨mn, md, c, p⟩ := d
  cases md with
  | mem m =>
    cases m with
    | abs addr => cases hb; cases h; rw [tick_cycles, totalCycles_mem_fixed]; rfl
    | _ => cases h
  | ind addr =>
    cases hb
    simp only [runJmp, execJmpInd] at h
    split at h
    · cases h
    · next h1 => cases h; rw [tick_cycles, State.setPc_cycles, (indirectTarget_onlyDevices h1).cycles, totalCycles_base] <;> rfl
  | _ => cases h

theorem runJsr_cycles (hb : baseCount .jsr d.mode.kind = some (d.cycles, d.penalty)) (h : runJsr d s = .next t) :
    t.cycles = s.cycles + totalCycles d s := by
  obtain ⟨mn, md, c, p⟩ := d
  cases hb
  cases md with
  | mem m =>
    cases m with
    | abs addr => cases h; rw [tick_cycles, totalCycles_mem_fixed]; rfl
    | _ => cases h
  | _ => cases h

/-- Every executed instruction with the count of R123 adds its cycles to the total: its register operations leave the total alone. -/
theorem run_cycles (hb : baseCount d.mnemonic d.mode.kind = some (d.cycles, d.penalty)) (h : run d s = .next t) :
    t.cycles = s.cycles + totalCycles d s := by
  have hl : Leaves State.cycles d.mnemonic d.mode := Unwritten.leaves {}
  obtain ⟨mn, md, c, p⟩ := d
  cases mn with
  | adc | sbc | and | ora | eor | bit | cmp | cpx | cpy | lda | ldx | ldy | lax => exact runRead_cycles hl h
  | sta | stx | sty | sax => exact runStore_cycles (storeCount_penalty hb) h
  | asl | lsr | rol | ror => exact runModify_cycles (modifyCount_penalty hb) hl.acc hl.after h
  | inc | dec => exact runModifyMem_cycles (modifyCount_penalty hb) hl.before hl.after h
  | dcp | isb | slo | rla | sre | rra => exact runModifyMem_cycles (unofficialModifyCount_penalty hb) hl.before hl.after h
  | bcc | bcs | beq | bmi | bne | bpl | bvc | bvs => exact runBranch_cycles rfl (fun _ => by simp) h
  | jmp => exact runJmp_cycles hb h
  | jsr => exact runJsr_cycles hb h
  | nop => exact runNop_cycles h
  | _ => exact runImplied_cycles hl h

end

/-- Settles O6: the table's rows are R123's, and each shape of instruction ends with a Tick of its descriptor's cycles. -/
theorem cycleTable : Obligations.CycleTable := by
  intro i d hd
  have hb := baseCount_descriptor hd
  refine ⟨hb, fun s t h => ?_⟩
  rw [exec_eq_run hd] at h
  rw [run_cycles hb h, totalCycles, ← Nat.add_assoc, ← Nat.add_assoc]

end Sys2Proof.Machine
end

section
/-! SUPPORT. The operand forms that the rules of 41_alu.md to 44_unofficial.md list. A form's opcode byte and mode fix the instruction's
descriptor, so a statement over a list of forms is one about the shape its mnemonic has: `readsThen_of_runRead`,
`modifiesThen_of_execModify`. -/

namespace Sys2Proof.Machine

/-! ### From a form to its descriptor (30_encoding.md R88; 40_execute_and_addressing.md R102, R123) -/

/-- The mode of kind `k` with the operand bytes `bs`, low byte first (R86); a byte that is not there counts as 0. -/
def ModeKind.withOperand (k : ModeKind) (bs : List Byte) : Mode :=
  let b1 := bs.getD 0 0
  let addr := mk16 (bs.getD 1 0) b1
  match k with
  | .imp => .imp
  | .acc => .acc
  | .imm => .imm b1
  | .zp => .mem (.zp b1)
  | .zpx => .mem (.zpx b1)
  | .zpy => .mem (.zpy b1)
  | .abs => .mem (.abs addr)
  | .abx => .mem (.abx addr)
  | .aby => .mem (.aby addr)
  | .izx => .mem (.izx b1)
  | .izy => .mem (.izy b1)
  | .rel => .rel b1
  | .ind => .ind addr

/-- Kind and operand bytes determine a mode. -/
theorem Mode.kind_withOperand (m : Mode) : m.kind.withOperand m.operandBytes = m := by
  rcases m with _ | _ | _ | m | _ | addr
  case mem =>
    cases m with
    | abs addr => exact congrArg (fun w => Mode.mem (.abs w)) (mk16_hiByte_loByte addr)
    | abx addr => exact congrArg (fun w => Mode.mem (.abx w)) (mk16_hiByte_loByte addr)
    | aby addr => exact congrArg (fun w => Mode.mem (.aby w)) (mk16_hiByte_loByte addr)
    | _ => rfl
  case ind => exact congrArg Mode.ind (mk16_hiByte_loByte addr)
  all_goals rfl

/-- The form is a row of mnemonic `mn`: R88 has it in its opcode byte's cell, with the count and `+` mark of R123. -/
abbrev Form.isRowOf (mn : Mnemonic) (r : Form) : Prop :=
  opcodeCell r.opcode = some (mn, r.kind) ∧ baseCount mn r.kind = some (r.cycles, r.penalty)

/-- The instruction of a form of `mn` has the form's descriptor. -/
theorem Form.isRowOf.descriptor_eq {mn : Mnemonic} {r : Form} {i : Instr} {m : Mode} (hrow : r.isRowOf mn) (h : r.encodes i m) :
    descriptor i = some ⟨mn, m, r.cycles, r.penalty⟩ := by
  obtain ⟨hcell, hcount⟩ := hrow
  obtain ⟨hkind, henc⟩ := h
  obtain ⟨opc, w, rfl⟩ := exists_shapeOf i
  obtain ⟨rfl, -⟩ := List.cons.inj ((encode_instr opc w).symm.trans henc)
  obtain ⟨d, hd, hdcell⟩ := Option.map_eq_some_iff.mp ((cell_instr r.opcode w).trans hcell)
  obtain ⟨hmn, hdkind⟩ := Prod.mk.inj hdcell
  have hbytes : m.operandBytes = d.mode.operandBytes := by rw [← tail_encode hd, henc]; rfl
  have hmode : d.mode = m := by
    rw [← Mode.kind_withOperand m, ← Mode.kind_withOperand d.mode, hbytes, hdkind, hkind]
  have hb := baseCount_descriptor hd
  rw [hmn, hdkind, hcount] at hb
  cases d
  cases hb
  rw [hd, ← hmn, ← hmode]

theorem Form.total_imm (r : Form) (b1 : Byte) (s : State) : r.total (.imm b1) s = r.cycles := by
  simp [Form.total, Mode.crossed]

/-- Without the `+` mark a form takes its base count. -/
theorem Form.total_of_no_penalty {r : Form} (h : r.penalty = false) (m : Mode) (s : State) : r.total m s = r.cycles := by
  simp [Form.total, h]

/-! ### Registers and flags across an access -/

/-- `t` has the registers of `s`, PC aside. -/
structure SameRegisters (s t : State) : Prop where
  a : t.a = s.a
  x : t.x = s.x
  y : t.y = s.y
  sp : t.sp = s.sp
  p : t.p = s.p

theorem SameRegisters.trans {s t u : State} (h : SameRegisters s t) (h' : SameRegisters t u) : SameRegisters s u :=
  ⟨h'.a.trans h.a, h'.x.trans h.x, h'.y.trans h.y, h'.sp.trans h.sp, h'.p.trans h.p⟩

/-- Moving PC to `next` and a bus read leave every register but PC. -/
theorem OnlyDevices.sameRegisters {n : Nat} {s t : State} (h : OnlyDevices (s.atNext n) t) : SameRegisters s t :=
  ⟨h.a, h.x, h.y, h.sp, h.p⟩

theorem OnlyRamAndDevices.sameRegisters {s t : State} (h : OnlyRamAndDevices s t) : SameRegisters s t :=
  ⟨h.a, h.x, h.y, h.sp, h.p⟩

/-- The listed fields and the old byte determine P. -/
theorem flagsAre_unique {old p q : Byte} {fields : List (Flag × Bool)} (hp : flagsAre old p fields) (hq : flagsAre old q fields) :
    p = q := by
  obtain ⟨hpset, hpkept⟩ := hp
  obtain ⟨hqset, hqkept⟩ := hq
  refine status_ext fun f => ?_
  by_cases hf : f ∈ fields.map Prod.fst
  · obtain ⟨c, hc, rfl⟩ := List.mem_map.mp hf
    rw [hpset c hc, hqset c hc]
  · rw [hpkept f hf, hqkept f hf]

theorem flagsAre_nil (p : Byte) : flagsAre p p [] := ⟨fun _ h => (nomatch h), fun _ _ => rfl⟩

/-! ### The shapes over a list of forms (R107, R125) -/

/-- The modes of an operand that a reading instruction has: immediate, or an address in data memory. -/
def ModeKind.isRead (k : ModeKind) : Bool :=
  match k with
  | .imm | .zp | .zpx | .zpy | .abs | .abx | .aby | .izx | .izy => true
  | .imp | .acc | .rel | .ind => false

/-- A mnemonic whose meaning is a read followed by the register operation `op`: the fault of the read is the instruction's, and the
read completes where the operand is readable. -/
theorem readsThen_of_runRead {mn : Mnemonic} {op : Byte → State → State} {forms : List Form}
    {eff : Byte → State → State → State → Prop} (hrun : ∀ m c p s, run ⟨mn, m, c, p⟩ s = runRead op ⟨mn, m, c, p⟩ s)
    (hforms : ∀ r ∈ forms, r.isRowOf mn ∧ r.kind.isRead = true)
    (heff : ∀ v s s1, SameRegisters s s1 → eff v s s1 (op v s1)) : readsThen forms eff := by
  intro r hr i m s henc
  obtain ⟨hrow, hread⟩ := hforms r hr
  have hkind : m.kind = r.kind := henc.left
  rw [exec_eq_run (hrow.descriptor_eq henc), hrun]
  cases m with
  | imm b1 =>
    refine ⟨fun f h => (nomatch h), fun _ => ⟨b1, s.atNext 2, _, rfl, heff b1 s _ (OnlyDevices.refl _).sameRegisters, ?_⟩⟩
    rw [Form.total_imm]
    rfl
  | mem m =>
    refine ⟨fun f h => ?_, fun h => ?_⟩
    · have hfault : busRead s.pc (m.ea s) (s.atNext m.length) = .fault f := Option.some.inj h
      simp only [runRead, execRead, hfault]
    · obtain ⟨v, s1, h1, hexec⟩ := execRead_completes op h
      exact ⟨v, s1, _, congrArg some h1, heff v s s1 (busRead_onlyDevices h1).sameRegisters, hexec⟩
  | _ =>
    rw [← hkind] at hread
    cases hread

/-- A mnemonic whose meaning is a read, the register operation `before`, a write of `result` and the register operation `after`: the
fault of either access is the instruction's, and both complete where `ea` is modifiable. -/
theorem modifiesThen_of_execModify {mn : Mnemonic} {result res : Byte → State → Byte} {before : Byte → State → State}
    {after : Byte → Byte → State → State} {forms : List Form} {pre : Byte → List (Flag × Bool)}
    {eff : Byte → State → State → State → Prop}
    (hrun : ∀ m c p s, run ⟨mn, .mem m, c, p⟩ s = execModify c result before after m s)
    (hforms : ∀ r ∈ forms, r.isRowOf mn ∧ r.penalty = false)
    (hres : ∀ v s s1, SameRegisters s s1 → result v s1 = res v s)
    (hpre : ∀ v s, ∃ p1, before v s = { s with p := p1 } ∧ flagsAre s.p p1 (pre v))
    (heff : ∀ v s s1 s2, SameRegisters s s1 → SameRegisters (before v s1) s2 → eff v s s2 (after v (res v s) s2)) :
    modifiesThen forms res pre eff := by
  intro r hr i m s henc
  obtain ⟨hrow, hpenalty⟩ := hforms r hr
  have hexec : exec i s = execModify r.cycles result before after m s := by
    rw [exec_eq_run (hrow.descriptor_eq henc), hrun]
  rw [hexec]
  refine ⟨fun f h => ?_, fun v s1 p1 f h hp1 hw => ?_, fun h => ?_⟩
  · have hfault : busRead s.pc (m.ea s) (s.atNext m.length) = .fault f := Option.some.inj h
    simp only [execModify, hfault]
  · have h1 : busRead s.pc (m.ea s) (s.atNext m.length) = .ok v s1 := Option.some.inj h
    have hregs := (busRead_onlyDevices h1).sameRegisters
    obtain ⟨q, hbefore, hq⟩ := hregs.p ▸ hpre v s1
    rw [flagsAre_unique hp1 hq] at hw
    simp only [execModify, h1, hbefore, hres v s s1 hregs, hw]
  · obtain ⟨v, s1, h1, hwrite⟩ := modifiable_ok (pc0 := s.pc) (s := s.atNext m.length) h
    have hregs := (busRead_onlyDevices h1).sameRegisters
    obtain ⟨q, hbefore, hq⟩ := hregs.p ▸ hpre v s1
    obtain ⟨s2, h2⟩ := hwrite (res v s) q
    have hafter : SameRegisters (before v s1) s2 := hbefore ▸ (busWrite_onlyRamAndDevices h2).sameRegisters
    refine ⟨v, s1, q, s2, _, congrArg some h1, hq, h2, heff v s s1 s2 hregs hafter, ?_⟩
    simp only [execModify, h1, hbefore, hres v s s1 hregs, h2, Form.total_of_no_penalty hpenalty]

/-- The same of a mnemonic that does nothing between its two accesses. -/
theorem modifiesThen_of_noneBefore {mn : Mnemonic} {result res : Byte → State → Byte} {after : Byte → Byte → State → State}
    {forms : List Form} {eff : Byte → State → State → State → Prop}
    (hrun : ∀ m c p s, run ⟨mn, .mem m, c, p⟩ s = execModify c result noneBefore after m s)
    (hforms : ∀ r ∈ forms, r.isRowOf mn ∧ r.penalty = false)
    (hres : ∀ v s s1, SameRegisters s s1 → result v s1 = res v s)
    (heff : ∀ v s s2, SameRegisters s s2 → eff v s s2 (after v (res v s) s2)) : modifiesThen forms res (fun _ => []) eff :=
  modifiesThen_of_execModify hrun hforms hres (fun _ s => ⟨s.p, rfl, flagsAre_nil s.p⟩)
    fun v s _ s2 h1 h2 => heff v s s2 (h1.trans h2)

end Sys2Proof.Machine
end

section
/-! SUPPORT. The ALU (41_alu.md R130-R148; 44_unofficial.md R209): what each flag computation leaves, as a list of fields, and the results
in integer arithmetic. -/

namespace Sys2Proof.Machine

/-! ### The flag computations -/

/-- An addition writes C, V, Z and N and nothing else (R130). -/
theorem flagsAre_addFlags (a op : Byte) (c : Bool) (p : Byte) :
    flagsAre p (addFlags a op c p) ((.c, decide (addSum a op c > 255)) :: (.v, addOverflow a op c) :: zn (addResult a op c)) := by
  constructor
  · simp [zn, getFlag_addFlags]
  · intro f hf
    exact flag_addFlags (by simpa [zn, and_left_comm] using hf) a op c p

/-- A compare writes C, Z and N and nothing else (R136). -/
theorem flagsAre_compareFlags (r op p : Byte) :
    flagsAre p (compareFlags r op p) [(.c, decide (op.toNat ≤ r.toNat)), (.z, decide (r = op)), (.n, bitAt 7 (r - op))] := by
  have hc : 0 ≤ compareDiff r op ↔ op.toNat ≤ r.toNat := by unfold compareDiff; omega
  have hz : compareDiff r op = 0 ↔ r = op := by rw [← BitVec.toNat_inj]; unfold compareDiff; omega
  have hn : BitVec.ofInt 8 (compareDiff r op) = r - op := by
    unfold compareDiff
    bv_omega
  constructor
  · simp [getFlag_compareFlags, hc, hz, hn]
  · intro f hf
    exact flag_compareFlags hf r op p

/-- BIT writes Z, N and V and nothing else (R135). -/
theorem flagsAre_bitTestFlags (a op p : Byte) :
    flagsAre p (bitTestFlags a op p) [(.z, decide (a &&& op = 0)), (.n, bitAt 7 op), (.v, bitAt 6 op)] := by
  constructor
  · simp [getFlag_bitTestFlags]
  · intro f hf
    exact flag_bitTestFlags (by simpa [and_comm] using hf) a op p

/-- A shift writes C, Z and N and nothing else (R145-R148). -/
theorem flagsAre_shiftFlags (carry : Bool) (r p : Byte) : flagsAre p (shiftFlags carry r p) ((.c, carry) :: zn r) := by
  constructor
  · simp [zn, getFlag_shiftFlags]
  · intro f hf
    exact flag_shiftFlags hf carry r p

/-! ### ADC and SBC (R130, R131, R209) -/

theorem addResult_eq_mod (a op : Byte) (c : Bool) :
    addResult a op c = BitVec.ofNat 8 ((a.toNat + op.toNat + c.toNat) % 256) := by
  apply BitVec.eq_of_toNat_eq
  simp [addResult, addSum]

/-- Settles O25: the sum of the model is the rule's, and its flags are those of the addition. -/
theorem adcResultAndFlags : Obligations.AdcResultAndFlags := by
  refine readsThen_of_runRead (mn := .adc) (op := opAdc) (fun _ _ _ _ => rfl) (by decide) fun v s s1 h => ?_
  dsimp only
  rw [← h.a, ← h.p, ← addResult_eq_mod]
  exact ⟨rfl, flagsAre_addFlags s1.a v (getFlag .c s1.p) s1.p⟩

/-- Adding the complement is subtracting with the borrow: the sum is `256` above the difference (R131). -/
theorem addSum_not (a op : Byte) (c : Bool) :
    (addSum a (~~~op) c : Int) = (a.toNat : Int) - op.toNat - (1 - c.toNat) + 256 := by
  have hop := op.isLt
  simp only [addSum, BitVec.toNat_not]
  omega

theorem addResult_not (a op : Byte) (c : Bool) :
    addResult a (~~~op) c = BitVec.ofInt 8 ((a.toNat : Int) - op.toNat - (1 - c.toNat)) := by
  rw [addResult, ← BitVec.ofInt_natCast, addSum_not, BitVec.ofInt_add]
  exact BitVec.add_zero _

theorem addSum_not_carry (a op : Byte) (c : Bool) : addSum a (~~~op) c > 255 ↔ op.toNat + 1 ≤ a.toNat + c.toNat := by
  have h := addSum_not a op c
  omega

theorem bitAt_not (v : Byte) : bitAt 7 (~~~v) = !bitAt 7 v := by
  simp [bitAt]

/-- Settles O26: the model adds the complement, which is the rule's subtraction with its borrow. -/
theorem sbcResultAndFlags : Obligations.SbcResultAndFlags := by
  refine readsThen_of_runRead (mn := .sbc) (op := opSbc) (fun _ _ _ _ => rfl) (by decide) fun v s s1 h => ?_
  simp only [← h.a, ← h.p, ← addResult_not, ← addSum_not_carry, ← bitAt_not]
  exact ⟨rfl, flagsAre_addFlags s1.a (~~~v) (getFlag .c s1.p) s1.p⟩

/-! ### AND, ORA, EOR, BIT (R132-R135) -/

/-- A mnemonic that puts `f A op` into A. -/
theorem readsThen_putA {mn : Mnemonic} {forms : List Form} (f : Byte → Byte → Byte)
    (hrun : ∀ m c p s, run ⟨mn, m, c, p⟩ s = runRead (fun op s => putA (f s.a op) s) ⟨mn, m, c, p⟩ s)
    (hforms : ∀ r ∈ forms, r.isRowOf mn ∧ r.kind.isRead = true) :
    readsThen forms (fun op s s1 t => t = { s1 with a := f s.a op, p := t.p } ∧ flagsAre s.p t.p (zn (f s.a op))) := by
  refine readsThen_of_runRead hrun hforms fun v s s1 h => ?_
  rw [← h.a, ← h.p]
  exact ⟨rfl, flagsAre_updateZN (f s1.a v) s1.p⟩

/-- Settles O27: each of the three puts its combination of A and the operand into A. -/
theorem logic : Obligations.Logic :=
  ⟨readsThen_putA (mn := .and) (· &&& ·) (fun _ _ _ _ => rfl) (by decide),
    readsThen_putA (mn := .ora) (· ||| ·) (fun _ _ _ _ => rfl) (by decide),
    readsThen_putA (mn := .eor) (· ^^^ ·) (fun _ _ _ _ => rfl) (by decide)⟩

/-- Settles O28: BIT writes P alone. -/
theorem bitResultAndFlags : Obligations.BitResultAndFlags := by
  refine readsThen_of_runRead (mn := .bit) (op := opBit) (fun _ _ _ _ => rfl) (by decide) fun v s s1 h => ?_
  rw [← h.a, ← h.p]
  exact ⟨rfl, flagsAre_bitTestFlags s1.a v s1.p⟩

/-! ### CMP, CPX, CPY (R136-R138) -/

/-- A mnemonic that compares the register `reg` with its operand. -/
theorem readsThen_compare {mn : Mnemonic} {forms : List Form} (reg : State → Byte)
    (hreg : ∀ s s1, SameRegisters s s1 → reg s1 = reg s)
    (hrun : ∀ m c p s, run ⟨mn, m, c, p⟩ s = runRead (fun op s => s.setP (compareFlags (reg s) op s.p)) ⟨mn, m, c, p⟩ s)
    (hforms : ∀ r ∈ forms, r.isRowOf mn ∧ r.kind.isRead = true) :
    readsThen forms (fun op s s1 t => t = { s1 with p := t.p } ∧
      flagsAre s.p t.p [(.c, decide (op.toNat ≤ (reg s).toNat)), (.z, decide (reg s = op)), (.n, bitAt 7 (reg s - op))]) := by
  refine readsThen_of_runRead hrun hforms fun v s s1 h => ?_
  rw [← hreg s s1 h, ← h.p]
  exact ⟨rfl, flagsAre_compareFlags (reg s1) v s1.p⟩

/-- Settles O29: the three compare A, X and Y. -/
theorem compare : Obligations.Compare :=
  ⟨readsThen_compare (mn := .cmp) State.a (fun _ _ h => h.a) (fun _ _ _ _ => rfl) (by decide),
    readsThen_compare (mn := .cpx) State.x (fun _ _ h => h.x) (fun _ _ _ _ => rfl) (by decide),
    readsThen_compare (mn := .cpy) State.y (fun _ _ h => h.y) (fun _ _ _ _ => rfl) (by decide)⟩

/-! ### INC, DEC and their register forms (R139-R144) -/

/-- A mnemonic that writes `f v` for the byte `v` it reads and then updates Z and N. -/
theorem modifiesThen_updateAfter {mn : Mnemonic} {forms : List Form} (f : Byte → Byte)
    (hrun : ∀ m c p s, run ⟨mn, .mem m, c, p⟩ s = execModify c (fun v _ => f v) noneBefore updateAfter m s)
    (hforms : ∀ r ∈ forms, r.isRowOf mn ∧ r.penalty = false) :
    modifiesThen forms (fun v _ => f v) (fun _ => [])
      (fun v s s2 t => t = { s2 with p := t.p } ∧ flagsAre s.p t.p (zn (f v))) := by
  refine modifiesThen_of_noneBefore hrun hforms (fun _ _ _ _ => rfl) fun v s s2 h => ?_
  rw [← h.p]
  exact ⟨rfl, flagsAre_updateZN (f v) s2.p⟩

/-- Settles O30: the byte written is the byte read plus or minus one. -/
theorem incDecMemory : Obligations.IncDecMemory :=
  ⟨modifiesThen_updateAfter (mn := .inc) (· + 1) (fun _ _ _ _ => rfl) (by decide),
    modifiesThen_updateAfter (mn := .dec) (· - 1) (fun _ _ _ _ => rfl) (by decide)⟩

/-- Settles O31: each of the four is one register update with the generic flag update, in the state whose PC is `next`. -/
theorem incDecRegisters : Obligations.IncDecRegisters :=
  ⟨⟨rfl, fun s => ⟨_, rfl, flagsAre_updateZN (s.x + 1) s.p⟩⟩, ⟨rfl, fun s => ⟨_, rfl, flagsAre_updateZN (s.y + 1) s.p⟩⟩,
    ⟨rfl, fun s => ⟨_, rfl, flagsAre_updateZN (s.x - 1) s.p⟩⟩, ⟨rfl, fun s => ⟨_, rfl, flagsAre_updateZN (s.y - 1) s.p⟩⟩⟩

/-! ### ASL, LSR, ROL, ROR (R145-R148) -/

theorem aslResult_eq (v : Byte) : aslResult v = BitVec.ofNat 8 (2 * v.toNat) := by
  apply BitVec.eq_of_toNat_eq
  simp [aslResult, Nat.shiftLeft_eq, Nat.mul_comm]

theorem lsrResult_eq (v : Byte) : lsrResult v = BitVec.ofNat 8 (v.toNat / 2) := by
  apply BitVec.eq_of_toNat_eq
  rw [lsrResult, BitVec.toNat_ushiftRight, Nat.shiftRight_eq_div_pow, BitVec.toNat_ofNat]
  omega

theorem carryByte_toNat (c : Bool) : (carryByte c).toNat = c.toNat := by
  cases c <;> rfl

/-- The shift leaves bit 0 clear, so the carry's byte is added there. -/
theorem rolResult_eq (v : Byte) (c : Bool) : rolResult v c = BitVec.ofNat 8 (2 * v.toNat + c.toNat) := by
  have hdisjoint : (v <<< 1) &&& carryByte c = 0 := by
    ext k hk
    by_cases h0 : k = 0
    · simp [h0]
    · cases c <;> simp [carryByte, h0]
  rw [rolResult, ← BitVec.add_eq_or_of_and_eq_zero _ _ hdisjoint]
  apply BitVec.eq_of_toNat_eq
  simp [carryByte_toNat, Nat.shiftLeft_eq, Nat.mul_comm]

/-- The shift leaves bit 7 clear, so the carry's byte is added there. -/
theorem rorResult_eq (v : Byte) (c : Bool) : rorResult v c = BitVec.ofNat 8 (v.toNat / 2 + 128 * c.toNat) := by
  have hdisjoint : (v >>> 1) &&& (carryByte c <<< 7) = 0 := by
    ext k hk
    by_cases h7 : k < 7
    · simp [h7]
    · obtain rfl : k = 7 := by omega
      simp
  rw [rorResult, ← BitVec.add_eq_or_of_and_eq_zero _ _ hdisjoint]
  apply BitVec.eq_of_toNat_eq
  simp [carryByte_toNat, Nat.shiftLeft_eq, Nat.shiftRight_eq_div_pow, Nat.mul_comm]

/-- A mnemonic that writes the shifted byte `res v s` and takes C from bit `k` of the byte `v` it reads. -/
theorem modifiesThen_shift {mn : Mnemonic} {forms : List Form} {result res : Byte → State → Byte} (k : Nat)
    (hrun : ∀ m c p s, run ⟨mn, .mem m, c, p⟩ s =
      execModify c result noneBefore (fun v r s => s.setP (shiftFlags (bitAt k v) r s.p)) m s)
    (hforms : ∀ r ∈ forms, r.isRowOf mn ∧ r.penalty = false)
    (hres : ∀ v s s1, SameRegisters s s1 → result v s1 = res v s) :
    modifiesThen forms res (fun _ => [])
      (fun v s s2 t => t = { s2 with p := t.p } ∧ flagsAre s.p t.p ((.c, bitAt k v) :: zn (res v s))) := by
  refine modifiesThen_of_noneBefore hrun hforms hres fun v s s2 h => ?_
  refine ⟨rfl, ?_⟩
  rw [← h.p]
  exact flagsAre_shiftFlags (bitAt k v) (res v s) s2.p

theorem rolByte_eq {s s1 : State} (h : SameRegisters s s1) (v : Byte) : rolByte v s1 = rolResult v (getFlag .c s.p) := by
  rw [rolByte, h.p]

theorem rorByte_eq {s s1 : State} (h : SameRegisters s s1) (v : Byte) : rorByte v s1 = rorResult v (getFlag .c s.p) := by
  rw [rorByte, h.p]

/-- Settles O32: left shifts take C from bit 7, right shifts from bit 0; the rotates shift in the C of the state before. -/
theorem shifts : Obligations.Shifts := by
  unfold Obligations.Shifts
  simp only [← aslResult_eq, ← lsrResult_eq, ← rolResult_eq, ← rorResult_eq]
  refine ⟨modifiesThen_shift (mn := .asl) 7 (fun _ _ _ _ => rfl) (by decide) (fun _ _ _ _ => rfl),
    modifiesThen_shift (mn := .lsr) 0 (fun _ _ _ _ => rfl) (by decide) (fun _ _ _ _ => rfl),
    modifiesThen_shift (mn := .rol) 7 (fun _ _ _ _ => rfl) (by decide) (fun v _ _ h => rolByte_eq h v),
    modifiesThen_shift (mn := .ror) 0 (fun _ _ _ _ => rfl) (by decide) (fun v _ _ h => rorByte_eq h v),
    ⟨rfl, fun s => ?_⟩, ⟨rfl, fun s => ?_⟩, ⟨rfl, fun s => ?_⟩, rfl, fun s => ?_⟩
  all_goals exact ⟨_, rfl, flagsAre_shiftFlags _ _ s.p⟩

end Sys2Proof.Machine
end

section
/-! SUPPORT. Control transfer over the stack and the branches (42_control_flow.md R150-R164): the cells that JSR and BRK push, RTS and
RTI as pulls of those cells, and the round trips that follow from the two (R164; 43_load_store_stack_flags.md R185). -/

namespace Sys2Proof.Machine

/-! ### The branches (R150-R158; 40_execute_and_addressing.md R115, R124) -/

section
variable {cycles : Nat} {taken : State → Bool} {b1 : Byte} {s : State}

theorem execBranch_not_taken (h : taken (s.atNext 2) = false) : execBranch cycles taken b1 s = .next (tick cycles (s.atNext 2)) := by
  simp only [execBranch, h, Bool.false_eq_true, if_false]

theorem execBranch_taken (h : taken (s.atNext 2) = true) :
    execBranch cycles taken b1 s =
      .next (tick (cycles + branchExtra (s.pc + 2) (s.pc + 2 + sext16 b1)) (s.setPc (s.pc + 2 + sext16 b1))) := by
  simp only [execBranch, h, if_true]
  rfl

end

/-- A taken branch costs 3 cycles in the page of `next`, else 4 (R124). -/
theorem branchExtra_total (next target : Word) :
    2 + branchExtra next target = if next.toNat / 256 = target.toNat / 256 then 3 else 4 := by
  simp only [branchExtra, bne_iff_ne, ne_eq, hiByte_eq_iff, ite_not]
  split <;> rfl

/-- An instruction of two bytes whose meaning is a branch of 2 cycles on a test that does not see PC. -/
theorem branches_of_execBranch {opcode : Byte} {i : Byte → Instr} {cond : State → Bool} (henc : ∀ b1, encode (i b1) = [opcode, b1])
    (hexec : ∀ b1 s, exec (i b1) s = execBranch 2 cond b1 s) (hpc : ∀ w s, cond (s.setPc w) = cond s) : branches opcode i cond := by
  intro b1 s
  have hnext : cond (s.atNext 2) = cond s := hpc _ s
  refine ⟨henc b1, fun h => ?_, fun h => ⟨s.pc + 2 + sext16 b1, add_sext16_toNat _ b1, ?_⟩⟩
  · rw [hexec, execBranch_not_taken (hnext.trans h)]
    rfl
  · rw [hexec, execBranch_taken (hnext.trans h), branchExtra_total]
    rfl

/-- Settles O16: each of the eight is the common branch rule on one bit of P. -/
theorem eightBranches : Obligations.Branches := by
  refine ⟨?_, ?_, ?_, ?_, ?_, ?_, ?_, ?_⟩
  all_goals exact branches_of_execBranch (fun _ => rfl) (fun _ _ => rfl) fun _ _ => rfl

/-! ### The cells JSR and BRK push (40_execute_and_addressing.md R122; 60_exceptions.md R227) -/

/-- A two-byte push stores the high byte where SP points and the low byte below it, and leaves every other cell. -/
theorem ramIs_push16 (w : Word) (s : State) :
    ramIs s (push16 w s) [(stackIndex s.sp, hiByte w), (stackIndex (s.sp - 1), loByte w)] := by
  have h : s.sp ≠ s.sp - 1#8 := by bv_omega
  constructor
  · simp [ramByte_push16, stackIndex_inj, h]
  · intro k hk
    simp only [List.map_cons, List.map_nil, List.mem_cons, List.not_mem_nil, or_false, not_or] at hk
    obtain ⟨hhi, hlo⟩ := hk
    rw [ramByte_push16, if_neg hlo, if_neg hhi]

/-- Taking a trap stores the two bytes of the return address and the status below them, and leaves every other cell. -/
theorem ramIs_trapEntry (ret : Word) (st : Byte) (s : State) :
    ramIs s (trapEntry ret st s)
      [(stackIndex s.sp, hiByte ret), (stackIndex (s.sp - 1), loByte ret), (stackIndex (s.sp - 2), st)] := by
  have h1 : s.sp ≠ s.sp - 1#8 := by bv_omega
  have h2 : s.sp ≠ s.sp - 2#8 := by bv_omega
  have h12 : s.sp - 1#8 ≠ s.sp - 2#8 := by bv_omega
  constructor
  · simp [ramByte_trapEntry, stackIndex_inj, h1, h2, h12]
  · intro k hk
    simp only [List.map_cons, List.map_nil, List.mem_cons, List.not_mem_nil, or_false, not_or] at hk
    obtain ⟨hhi, hlo, hst⟩ := hk
    rw [ramByte_trapEntry, if_neg hst, if_neg hlo, if_neg hhi]

/-- Setting a field writes that field and no other. -/
theorem flagsAre_setFlag (f : Flag) (b : Bool) (p : Byte) : flagsAre p (setFlag f b p) [(f, b)] := by
  constructor
  · simp
  · intro g hg
    exact getFlag_setFlag_ne (by simpa using hg) b p

/-- What `ramIs` says is about RAM alone. -/
theorem ramIs_of_ram {s t u : State} {cells : List (Nat × Byte)} (h : ramIs s t cells) (hram : u.ram = t.ram) : ramIs s u cells :=
  ⟨fun c hc => (ramByte_of_ram hram c.1).trans (h.1 c hc), fun k hk => (ramByte_of_ram hram k).trans (h.2 k hk)⟩

/-- `PC <- next` stores nothing. -/
theorem ramIs_atNext (n : Nat) (s t : State) (cells : List (Nat × Byte)) : ramIs (s.atNext n) t cells ↔ ramIs s t cells := Iff.rfl

/-! ### JSR and RTS (R160, R161) -/

theorem execImplied_of_eq {cycles : Nat} {op : State → State} {s t : State} (h : op (s.atNext 1) = t) :
    execImplied cycles op s = .next (tick cycles t) := by
  rw [execImplied, h]

/-- JSR pushes `PC - 1` and jumps: PC, SP and RAM change, nothing else. -/
theorem opJsr_frame (addr : Word) (s : State) : opJsr addr s = { s with pc := addr, sp := s.sp - 2, ram := (opJsr addr s).ram } := by
  unfold opJsr
  rw [push16_frame]
  rfl

theorem ramIs_opJsr (addr : Word) (s : State) :
    ramIs s (opJsr addr s) [(stackIndex s.sp, hiByte (s.pc - 1)), (stackIndex (s.sp - 1), loByte (s.pc - 1))] :=
  ramIs_of_ram (ramIs_push16 (s.pc - 1) s) rfl

/-- RTS pulls the two bytes above SP and adds one (40_execute_and_addressing.md R122). -/
theorem opRts_eq (s : State) :
    opRts s = { s with
      sp := s.sp + 2
      pc := mk16 (ramByte s (stackIndex (s.sp + 2))) (ramByte s (stackIndex (s.sp + 1))) + 1 } := by
  have h2 : s.sp + 1 + 1 = s.sp + 2 := by bv_omega
  rw [← h2]; rfl

/-- Settles O15: JSR is a two-byte push of `next - 1` and a jump, RTS a two-byte pull. -/
theorem jsrRts : Obligations.JsrRts := by
  refine ⟨fun addr s => ⟨rfl, opJsr addr (s.atNext 3), rfl, opJsr_frame addr (s.atNext 3), ?_⟩, rfl, fun s => ?_⟩
  · have hret : (s.atNext 3).pc - 1 = s.pc + 2 := by rw [State.atNext_pc]; bv_omega
    simpa only [ramIs_atNext, State.atNext_sp, hret] using ramIs_opJsr addr (s.atNext 3)
  · exact execImplied_of_eq (opRts_eq (s.atNext 1))

/-! ### BRK and RTI (R162, R163) -/

section
variable {s : State}

theorem opBrk_vector (h : s.params.brkMode = .vector) :
    opBrk s = loadVector 0xFFFE (trapEntry (s.pc + 1) (breakStatus s.p) s) := by
  simp only [opBrk, h]

theorem opBrk_halt (h : s.params.brkMode = .halt) :
    opBrk s = (trapEntry (s.pc + 1) (breakStatus s.p) s).setRunning false := by
  simp only [opBrk, h]

theorem opBrk_vector_frame (h : s.params.brkMode = .vector) :
    opBrk s = { s with pc := prgWord s.cart 0xFFFE, sp := s.sp - 3, p := (opBrk s).p, ram := (opBrk s).ram } := by
  rw [opBrk_vector h, trapEntry_frame]
  rfl

theorem opBrk_halt_frame (h : s.params.brkMode = .halt) :
    opBrk s = { s with sp := s.sp - 3, p := (opBrk s).p, ram := (opBrk s).ram, running := false } := by
  rw [opBrk_halt h, trapEntry_frame]
  rfl

end

/-- In both settings of `BRK_MODE`, BRK sets I. -/
theorem opBrk_p (s : State) : (opBrk s).p = setFlag .i true s.p := by
  rcases opBrk_cases s with e | e <;> rw [e] <;> rfl

/-- In both settings of `BRK_MODE`, BRK pushes `PC + 1` and the status with bits 4 and 5 set. -/
theorem ramIs_opBrk (s : State) :
    ramIs s (opBrk s) [(stackIndex s.sp, hiByte (s.pc + 1)), (stackIndex (s.sp - 1), loByte (s.pc + 1)),
      (stackIndex (s.sp - 2), s.p ||| 0x30)] := by
  refine ramIs_of_ram (ramIs_trapEntry (s.pc + 1) (breakStatus s.p) s) ?_
  rcases opBrk_cases s with e | e <;> rw [e] <;> rfl

/-- Settles O13: in both settings BRK is the trap entry, and the setting decides what follows it. -/
theorem brkPushesAndVectors : Obligations.BrkPushesAndVectors := by
  refine ⟨rfl, fun s => ⟨opBrk (s.atNext 1), rfl, opBrk_vector_frame (s := s.atNext 1), opBrk_halt_frame (s := s.atNext 1), ?_, ?_⟩⟩
  · rw [opBrk_p]
    exact flagsAre_setFlag .i true s.p
  · have hret : (s.atNext 1).pc + 1 = s.pc + 2 := by rw [State.atNext_pc]; bv_omega
    simpa only [ramIs_atNext, State.atNext_sp, State.atNext_p, hret] using ramIs_opBrk (s.atNext 1)

/-- Settles O14: RTI is the trap return, whose status keeps bits 4 and 5. -/
theorem rtiRestoresStatusAndPc : Obligations.RtiRestoresStatusAndPc := by
  refine ⟨rfl, fun s => ⟨mergeStatus (ramByte s (stackIndex (s.sp + 1))) s.p, ?_, fun f => getFlag_mergeStatus f _ s.p⟩⟩
  exact execImplied_of_eq (trapReturn_eq (s.atNext 1))

/-! ### Pull undoes push (R164; 43_load_store_stack_flags.md R185) -/

/-- Bits 4 and 5 set leave the other fields of P. -/
theorem getFlag_breakStatus {f : Flag} (h4 : f ≠ .b1) (h5 : f ≠ .b2) (p : Byte) : getFlag f (breakStatus p) = getFlag f p := by
  cases f
  case b1 => exact absurd rfl h4
  case b2 => exact absurd rfl h5
  all_goals simp [getFlag, breakStatus, bitAt, Flag.bit]

section
variable {s t u : State} (hsp : u.sp = t.sp) (hram : ∀ k, ramByte u k = ramByte t k)
include hsp hram

/-- A Tick leaves the stack pointer and RAM, so the pull meets the stack as the push left it. -/
theorem stack_of_push {i : Instr} {n : Nat} {t' : State} (h : exec i s = .next t) (h' : exec i s = .next (tick n t')) :
    u.sp = t'.sp ∧ ∀ k, ramByte u k = ramByte t' k := by
  obtain rfl : tick n t' = t := by rw [h'] at h; cases h; rfl
  exact ⟨hsp.trans (tick_sp n t'), fun k => (hram k).trans (ramByte_of_ram (tick_ram n t') k)⟩

/-- RTS finds the two bytes JSR pushed, so it returns to `pc0 + 2` plus one. -/
theorem rts_after_jsr {addr : Word} (h : exec (.jsr addr) s = .next t) :
    ∃ w, exec .rts u = .next w ∧ w.pc = s.pc + 3 ∧ w.sp = s.sp := by
  obtain ⟨hjsr, -, hrts⟩ := jsrRts
  obtain ⟨-, t', ht', hregs, hcells, -⟩ := hjsr addr s
  obtain ⟨hsp', hram'⟩ := stack_of_push hsp hram h ht'
  have husp : u.sp = s.sp - 2 := by rw [hsp', hregs]
  have hhi : u.sp + 2 = s.sp := by bv_omega
  have hlo : u.sp + 1 = s.sp - 1 := by bv_omega
  have hret : s.pc + 2 + 1 = s.pc + 3 := by bv_omega
  simp only [List.forall_mem_cons, ← hram'] at hcells
  obtain ⟨hpushhi, hpushlo, -⟩ := hcells
  refine ⟨_, hrts u, ?_, (tick_sp _ _).trans hhi⟩
  rw [tick_pc, hhi, hlo, hpushhi, hpushlo, mk16_hiByte_loByte, hret]

/-- RTI finds the three bytes BRK pushed, so it returns to `pc0 + 2` itself, with the flags of the pushed status. -/
theorem rti_after_brk (h : exec .brk s = .next t) :
    ∃ w, exec .rti u = .next w ∧ w.pc = s.pc + 2 ∧ w.sp = s.sp ∧
      ∀ f, f ≠ .b1 → f ≠ .b2 → getFlag f w.p = getFlag f s.p := by
  obtain ⟨-, hbrk⟩ := brkPushesAndVectors
  obtain ⟨-, hrti⟩ := rtiRestoresStatusAndPc
  obtain ⟨t', ht', hvector, hhalt, -, hcells, -⟩ := hbrk s
  obtain ⟨p', hw, hp'⟩ := hrti u
  obtain ⟨hsp', hram'⟩ := stack_of_push hsp hram h ht'
  have husp : u.sp = s.sp - 3 := by
    cases hmode : s.params.brkMode
    · rw [hsp', hvector hmode]
    · rw [hsp', hhalt hmode]
  have hhi : u.sp + 3 = s.sp := by bv_omega
  have hlo : u.sp + 2 = s.sp - 1 := by bv_omega
  have hst : u.sp + 1 = s.sp - 2 := by bv_omega
  simp only [List.forall_mem_cons, ← hram'] at hcells
  obtain ⟨hpushhi, hpushlo, hpushst, -⟩ := hcells
  refine ⟨_, hw, ?_, (tick_sp _ _).trans hhi, fun f h4 h5 => ?_⟩
  · rw [tick_pc, hhi, hlo, hpushhi, hpushlo, mk16_hiByte_loByte]
  · rw [tick_p, hp' f, if_neg (not_or.mpr ⟨h4, h5⟩), hst, hpushst]
    exact getFlag_breakStatus h4 h5 s.p

/-- PLA finds the byte PHA pushed. -/
theorem pla_after_pha (h : exec .pha s = .next t) : ∃ w, exec .pla u = .next w ∧ w.a = s.a ∧ w.sp = s.sp := by
  obtain ⟨-, ⟨-, hpha⟩, -⟩ := pushes
  obtain ⟨-, -, ⟨-, hpla⟩, -⟩ := pulls
  obtain ⟨t', ht', hregs, hcells, -⟩ := hpha s
  obtain ⟨p', hw, -⟩ := hpla u
  obtain ⟨hsp', hram'⟩ := stack_of_push hsp hram h ht'
  have husp : u.sp = s.sp - 1 := by rw [hsp', hregs]
  have htop : u.sp + 1 = s.sp := by bv_omega
  refine ⟨_, hw, ?_, (tick_sp _ _).trans htop⟩
  rw [tick_a, htop, hram', List.forall_mem_singleton.mp hcells]

/-- PLP finds the status PHP pushed. -/
theorem plp_after_php (h : exec .php s = .next t) :
    ∃ w, exec .plp u = .next w ∧ w.sp = s.sp ∧ ∀ f, f ≠ .b1 → f ≠ .b2 → getFlag f w.p = getFlag f s.p := by
  obtain ⟨-, -, -, hphp⟩ := pushes
  obtain ⟨-, -, -, -, hplp⟩ := pulls
  obtain ⟨t', ht', hregs, hcells, -⟩ := hphp s
  obtain ⟨p', hw, hp'⟩ := hplp u
  obtain ⟨hsp', hram'⟩ := stack_of_push hsp hram h ht'
  have husp : u.sp = s.sp - 1 := by rw [hsp', hregs]
  have htop : u.sp + 1 = s.sp := by bv_omega
  refine ⟨_, hw, (tick_sp _ _).trans htop, fun f h4 h5 => ?_⟩
  rw [tick_p, hp' f, if_neg (not_or.mpr ⟨h4, h5⟩), htop, hram', List.forall_mem_singleton.mp hcells]
  exact getFlag_breakStatus h4 h5 s.p

end

/-- Settles O53: each pull finds the bytes the push stored at SP, and adding what the push subtracted restores SP. -/
theorem stackRoundTrips : Obligations.StackRoundTrips := fun _ _ _ hsp hram =>
  ⟨fun _ => rts_after_jsr hsp hram, rti_after_brk hsp hram, pla_after_pha hsp hram, plp_after_php hsp hram⟩

end Sys2Proof.Machine
end

section
/-! SUPPORT. Loads, stores, transfers, flag instructions and NOPs (43_load_store_stack_flags.md R170-R181, R186-R193; 44_unofficial.md
R200-R202): the shape of a store and of a NOP over a list of forms; each of the others is one register operation at `next`. -/

namespace Sys2Proof.Machine

/-! ### Loads (R170-R172, R201) -/

/-- The generic update after an access that left P alone is one of the P before it. -/
theorem SameRegisters.flagsAre_updateZN {s s1 : State} (h : SameRegisters s s1) (v : Byte) :
    flagsAre s.p (updateZN v s1.p) (zn v) := by
  rw [← h.p]
  exact Machine.flagsAre_updateZN v s1.p

/-- Settles O18: each of the four is one read, whose byte is put into the register. -/
theorem loads : Obligations.Loads :=
  ⟨readsThen_of_runRead (mn := .lda) (op := putA) (fun _ _ _ _ => rfl) (by decide) fun v _ _ h => ⟨rfl, h.flagsAre_updateZN v⟩,
    readsThen_of_runRead (mn := .ldx) (op := putX) (fun _ _ _ _ => rfl) (by decide) fun v _ _ h => ⟨rfl, h.flagsAre_updateZN v⟩,
    readsThen_of_runRead (mn := .ldy) (op := putY) (fun _ _ _ _ => rfl) (by decide) fun v _ _ h => ⟨rfl, h.flagsAre_updateZN v⟩,
    readsThen_of_runRead (mn := .lax) (op := opLax) (fun _ _ _ _ => rfl) (by decide) fun v _ _ h => ⟨rfl, h.flagsAre_updateZN v⟩⟩

/-! ### Stores (R173-R175, R202) -/

/-- A mnemonic whose meaning is one write of `val`: the fault of the write is the instruction's, and the write completes where `ea` is
writable. -/
theorem storesThen_of_runStore {mn : Mnemonic} {val : State → Byte} {forms : List Form}
    (hrun : ∀ m c p s, run ⟨mn, .mem m, c, p⟩ s = execStore c val m s)
    (hforms : ∀ r ∈ forms, r.isRowOf mn ∧ r.penalty = false) : storesThen forms val := by
  intro r hr i m s henc
  obtain ⟨hrow, hpenalty⟩ := hforms r hr
  rw [exec_eq_run (hrow.descriptor_eq henc), hrun, Form.total_of_no_penalty hpenalty]
  refine ⟨fun f hfault => ?_, execStore_completes val⟩
  simp only [execStore, hfault]

/-- Settles O19: each of the four is one write of its register; SAX's byte is A AND X. -/
theorem stores : Obligations.Stores :=
  ⟨storesThen_of_runStore (mn := .sta) (fun _ _ _ _ => rfl) (by decide),
    storesThen_of_runStore (mn := .stx) (fun _ _ _ _ => rfl) (by decide),
    storesThen_of_runStore (mn := .sty) (fun _ _ _ _ => rfl) (by decide),
    storesThen_of_runStore (mn := .sax) (fun _ _ _ _ => rfl) (by decide)⟩

/-! ### NOPs (R193, R200) -/

theorem Form.total_imp (r : Form) (s : State) : r.total .imp s = r.cycles := by
  simp [Form.total, Mode.crossed]

/-- NOP in a mode that R123 counts for it moves PC and ticks, whatever its effective address. -/
theorem runNop_form {r : Form} {m : Mode} (hcount : nopCount m.kind = some (r.cycles, r.penalty)) (s : State) :
    runNop ⟨.nop, m, r.cycles, r.penalty⟩ s = .next (tick (r.total m s) (s.atNext m.length)) := by
  cases m with
  | imp =>
    rw [Form.total_imp]
    rfl
  | imm b1 =>
    rw [Form.total_imm]
    rfl
  | mem m => rfl
  | acc | rel _ | ind _ => cases hcount

/-- Every form of NOP completes: PC moves past the instruction and the form's cycles pass. -/
theorem exec_nop_forms {forms : List Form} (hforms : ∀ r ∈ forms, r.isRowOf .nop) :
    ∀ r ∈ forms, ∀ (i : Instr) (m : Mode) (s : State), r.encodes i m →
      exec i s = .next (tick (r.total m s) (s.atNext m.length)) := by
  intro r hr i m s henc
  have hrow := hforms r hr
  rw [exec_eq_run (hrow.descriptor_eq henc)]
  exact runNop_form (henc.left ▸ hrow.right) s

/-- Settles O24: the 27 unofficial forms are rows of NOP in R88, as 0xEA is. -/
theorem nops : Obligations.Nops :=
  ⟨⟨rfl, fun _ => rfl⟩, exec_nop_forms (by decide)⟩

/-! ### Transfers and flag instructions (R176-R181, R186-R192) -/

/-- Settles O20: five of the six are a register update with the generic flag update at `next`; TXS is the plain copy. -/
theorem transfers : Obligations.Transfers :=
  ⟨⟨rfl, fun s => ⟨_, rfl, flagsAre_updateZN s.a s.p⟩⟩, ⟨rfl, fun s => ⟨_, rfl, flagsAre_updateZN s.a s.p⟩⟩,
    ⟨rfl, fun s => ⟨_, rfl, flagsAre_updateZN s.x s.p⟩⟩, ⟨rfl, fun s => ⟨_, rfl, flagsAre_updateZN s.y s.p⟩⟩,
    ⟨rfl, fun s => ⟨_, rfl, flagsAre_updateZN s.sp s.p⟩⟩, rfl, fun _ => rfl⟩

/-- Settles O23: each of the seven sets one field of P at `next`. -/
theorem flagInstructions : Obligations.FlagInstructions :=
  ⟨⟨rfl, fun s => ⟨_, rfl, flagsAre_setFlag .c false s.p⟩⟩, ⟨rfl, fun s => ⟨_, rfl, flagsAre_setFlag .c true s.p⟩⟩,
    ⟨rfl, fun s => ⟨_, rfl, flagsAre_setFlag .i false s.p⟩⟩, ⟨rfl, fun s => ⟨_, rfl, flagsAre_setFlag .i true s.p⟩⟩,
    ⟨rfl, fun s => ⟨_, rfl, flagsAre_setFlag .d false s.p⟩⟩, ⟨rfl, fun s => ⟨_, rfl, flagsAre_setFlag .d true s.p⟩⟩,
    rfl, fun s => ⟨_, rfl, flagsAre_setFlag .v false s.p⟩⟩

end Sys2Proof.Machine
end

section
/-! SUPPORT. The unofficial read-modify-writes (44_unofficial.md R203-R208): the byte written is then an operand of A's compare, subtraction,
addition or logic operation; SLO, RLA, SRE and RRA put the bit shifted out into C between the two accesses. -/

namespace Sys2Proof.Machine

/-! ### DCP, ISB (R203, R204) -/

/-- Settles O33: DCP compares A with the byte written; ISB adds its complement, which is the rule's subtraction with its borrow. -/
theorem dcpIsb : Obligations.DcpIsb := by
  constructor
  · refine modifiesThen_of_noneBefore (mn := .dcp) (after := dcpAfter) (fun _ _ _ _ => rfl) (by decide) (fun _ _ _ _ => rfl)
      fun v s s2 h => ?_
    rw [← h.a, ← h.p]
    exact ⟨rfl, flagsAre_compareFlags s2.a (v - 1) s2.p⟩
  · refine modifiesThen_of_noneBefore (mn := .isb) (after := isbAfter) (fun _ _ _ _ => rfl) (by decide) (fun _ _ _ _ => rfl)
      fun v s s2 h => ?_
    simp only [← h.a, ← h.p, ← addResult_not, ← addSum_not_carry, ← bitAt_not]
    exact ⟨rfl, flagsAre_addFlags s2.a (~~~(v + 1)) (getFlag .c s2.p) s2.p⟩

/-! ### The bit shifted out goes into C before the write (R205-R208) -/

/-- A field that is written again afterwards leaves no trace of its first value. -/
theorem flagsAre_of_setFlag {f : Flag} {b : Bool} {p q : Byte} {fields : List (Flag × Bool)} (hf : f ∈ fields.map Prod.fst)
    (h : flagsAre (setFlag f b p) q fields) : flagsAre p q fields := by
  obtain ⟨hset, hkept⟩ := h
  refine ⟨hset, fun g hg => (hkept g hg).trans (getFlag_setFlag_ne ?_ b p)⟩
  rintro rfl
  exact hg hf

/-- `v[0]` as a number. -/
theorem bitAt_zero_toNat (v : Byte) : (bitAt 0 v).toNat = v.toNat % 2 := by
  rw [bitAt, BitVec.getLsbD, Nat.toNat_testBit, Nat.pow_zero, Nat.div_one]

/-- A mnemonic that puts bit `k` of the byte read into C, then writes `res v s`: after the write its operation finds A and that C. -/
theorem modifiesThen_carryBefore {mn : Mnemonic} {forms : List Form} {result res : Byte → State → Byte}
    {after : Byte → Byte → State → State} {eff : Byte → State → State → State → Prop} (k : Nat)
    (hrun : ∀ m c p s, run ⟨mn, .mem m, c, p⟩ s =
      execModify c result (fun v s => s.setP (setFlag .c (bitAt k v) s.p)) after m s)
    (hforms : ∀ r ∈ forms, r.isRowOf mn ∧ r.penalty = false)
    (hres : ∀ v s s1, SameRegisters s s1 → result v s1 = res v s)
    (heff : ∀ v s s2, s2.a = s.a → s2.p = setFlag .c (bitAt k v) s.p → eff v s s2 (after v (res v s) s2)) :
    modifiesThen forms res (fun v => [(.c, bitAt k v)]) eff := by
  refine modifiesThen_of_execModify hrun hforms hres (fun v s => ⟨_, rfl, flagsAre_setFlag .c (bitAt k v) s.p⟩)
    fun v s s1 s2 h1 h2 => ?_
  have ha : s2.a = s.a := h2.a.trans h1.a
  have hp : s2.p = setFlag .c (bitAt k v) s.p := h2.p.trans (congrArg (setFlag .c (bitAt k v)) h1.p)
  exact heff v s s2 ha hp

/-- Such a mnemonic whose operation puts `f A m` into A, for the byte `m` written. -/
theorem modifiesThen_carryBefore_putA {mn : Mnemonic} {forms : List Form} {result res : Byte → State → Byte} (k : Nat)
    (f : Byte → Byte → Byte)
    (hrun : ∀ m c p s, run ⟨mn, .mem m, c, p⟩ s =
      execModify c result (fun v s => s.setP (setFlag .c (bitAt k v) s.p)) (fun _ m s => putA (f s.a m) s) m s)
    (hforms : ∀ r ∈ forms, r.isRowOf mn ∧ r.penalty = false)
    (hres : ∀ v s s1, SameRegisters s s1 → result v s1 = res v s) :
    modifiesThen forms res (fun v => [(.c, bitAt k v)])
      (fun v s s2 t => t = { s2 with a := f s.a (res v s), p := t.p } ∧
        flagsAre s.p t.p ((.c, bitAt k v) :: zn (f s.a (res v s)))) := by
  refine modifiesThen_carryBefore k hrun hforms hres fun v s s2 ha hp => ?_
  have hflags := flagsAre_shiftFlags (bitAt k v) (f s2.a (res v s)) s.p
  rw [shiftFlags, ← hp] at hflags
  rw [← ha]
  exact ⟨rfl, hflags⟩

/-- Settles O34: both take C from bit 7; RLA shifts in the C of the state before, and OR or AND finds A as it was. -/
theorem sloRla : Obligations.SloRla := by
  unfold Obligations.SloRla
  simp only [← aslResult_eq, ← rolResult_eq]
  exact ⟨modifiesThen_carryBefore_putA (mn := .slo) 7 (· ||| ·) (fun _ _ _ _ => rfl) (by decide) (fun _ _ _ _ => rfl),
    modifiesThen_carryBefore_putA (mn := .rla) 7 (· &&& ·) (fun _ _ _ _ => rfl) (by decide) (fun v _ _ h => rolByte_eq h v)⟩

/-- Settles O35: both take C from bit 0, and RRA's addition finds that bit as its carry-in. -/
theorem sreRra : Obligations.SreRra := by
  unfold Obligations.SreRra
  simp only [← lsrResult_eq, ← rorResult_eq]
  refine ⟨modifiesThen_carryBefore_putA (mn := .sre) 0 (· ^^^ ·) (fun _ _ _ _ => rfl) (by decide) (fun _ _ _ _ => rfl),
    modifiesThen_carryBefore (mn := .rra) (after := rraAfter) 0 (fun _ _ _ _ => rfl) (by decide) (fun v _ _ h => rorByte_eq h v)
      fun v s s2 ha hp => ?_⟩
  have hcarry : getFlag .c s2.p = bitAt 0 v := by
    rw [hp, getFlag_setFlag_same]
  simp only [← bitAt_zero_toNat, ← addResult_eq_mod, ← hcarry, ← ha]
  refine ⟨rfl, flagsAre_of_setFlag (f := .c) (b := bitAt 0 v) (by simp) ?_⟩
  rw [← hp]
  exact flagsAre_addFlags s2.a (rorResult v (getFlag .c s.p)) (getFlag .c s2.p) s2.p

end Sys2Proof.Machine
end

section
/-! SUPPORT. The PPU ports, the joypads, the PPU's advance and the NMI (60_exceptions.md R222-R224, R240-R243, R248-R260, R269, R270): one
rule per port, the VRAM space by region, what a completed scanline does to each bit it can change, and the state NMI service ticks in. -/

namespace Sys2Proof.Machine

/-! ### Bits and VRAM addresses (00_scope.md R7; 60_exceptions.md R248) -/

theorem bitAt_and (k : Nat) (v w : Byte) : bitAt k (v &&& w) = (bitAt k v && bitAt k w) := BitVec.getLsbD_and

theorem bitAt_or (k : Nat) (v w : Byte) : bitAt k (v ||| w) = (bitAt k v || bitAt k w) := BitVec.getLsbD_or

/-- `(v >> k) & 1` is bit `k` (R7). -/
theorem ushiftRight_and_one (v : Byte) (k : Nat) : (v >>> k) &&& 1 = if bitAt k v then 1 else 0 := by
  have hbit : (v >>> k).getLsbD 0 = bitAt k v := by rw [BitVec.getLsbD_ushiftRight]; rfl
  rw [BitVec.ofNat_eq_ofNat, BitVec.and_one_eq_setWidth_ofBool_getLsbD, hbit]
  cases bitAt k v <;> rfl

/-- Masking with 0x3FFF keeps an address to 14 bits. -/
theorem and_3FFF_eq (w : Word) : w &&& 0x3FFF = BitVec.ofNat 16 (w.toNat % 0x4000) := by
  have hmod : w.toNat &&& 0x3FFF = w.toNat % 0x4000 := Nat.and_two_pow_sub_one_eq_mod w.toNat 14
  have hlt : w.toNat % 0x4000 < 2 ^ 16 := by omega
  apply BitVec.eq_of_toNat_eq
  rw [BitVec.toNat_and, BitVec.toNat_ofNat, Nat.mod_eq_of_lt hlt]
  exact hmod

/-- A storage read at any index after a write at one. -/
theorem Memory.read_write (st : Storage) (i : Nat) (v : Byte) (m : Memory) (k : Nat) :
    Memory.read st (Memory.write i v m) k = if k = i then v else Memory.read st m k := by
  split
  · next h => rw [h, Memory.read_write_same]
  · next h => exact Memory.read_write_ne st (Ne.symm h) v m

/-! ### One rule per PPU port (20_memory.md R49) -/

section
variable (pc0 : Word) {a : Word} (v : Byte) (s : State)

theorem portWrite_control (h : a.toNat % 8 = 0) : portWrite pc0 a v s = .ok () (s.setPpu (ppuWriteControl v s.ppu)) := by
  simp only [portWrite, portOf, h]

theorem portWrite_mask (h : a.toNat % 8 = 1) : portWrite pc0 a v s = .ok () (s.setPpu (ppuWriteMask v s.ppu)) := by
  simp only [portWrite, portOf, h]

theorem portRead_status (h : a.toNat % 8 = 2) : portRead pc0 a s = .ok s.ppu.status (s.setPpu (ppuAfterStatusRead s.ppu)) := by
  simp only [portRead, portOf, h]

theorem portWrite_oamAddr (h : a.toNat % 8 = 3) : portWrite pc0 a v s = .ok () (s.setPpu (ppuWriteOamAddr v s.ppu)) := by
  simp only [portWrite, portOf, h]

theorem portRead_oamData (h : a.toNat % 8 = 4) : portRead pc0 a s = .ok (ppuOamData s.ppu) s := by
  simp only [portRead, portOf, h]

theorem portWrite_oamData (h : a.toNat % 8 = 4) : portWrite pc0 a v s = .ok () (s.setPpu (ppuWriteOamData v s.ppu)) := by
  simp only [portWrite, portOf, h]

theorem portWrite_scroll (h : a.toNat % 8 = 5) : portWrite pc0 a v s = .ok () (s.setPpu (ppuWriteScroll v s.ppu)) := by
  simp only [portWrite, portOf, h]

theorem portWrite_address (h : a.toNat % 8 = 6) : portWrite pc0 a v s = .ok () (s.setPpu (ppuWriteAddress v s.ppu)) := by
  simp only [portWrite, portOf, h]

theorem portRead_data (h : a.toNat % 8 = 7) :
    portRead pc0 a s = .ok (ppuData s.cart s.params.readBuffered s.ppu)
      (s.setPpu (ppuAfterDataRead s.cart s.params.readBuffered s.ppu)) := by
  simp only [portRead, portOf, h]

theorem portWrite_data_chr (h : a.toNat % 8 = 7) (hv : s.ppu.v.toNat < 0x2000) :
    portWrite pc0 a v s = .fault (.chrWrite pc0 a v s.ppu.v s.regs) := by
  simp only [portWrite, portOf, h, if_pos hv]

theorem portWrite_data (h : a.toNat % 8 = 7) (hv : 0x2000 ≤ s.ppu.v.toNat) :
    portWrite pc0 a v s = .ok () (s.setPpu (ppuWriteData s.cart.mirroring v s.ppu)) := by
  simp only [portWrite, portOf, h, if_neg (Nat.not_lt.mpr hv)]

end

/-! ### Control, mask and status (R250-R252) -/

/-- A control write raises the NMI when bit 7 goes from 0 to 1 while vblank is set (R250). -/
theorem ppuWriteControl_eq (v : Byte) (u : Ppu) :
    ppuWriteControl v u = { u with
      ctrl := v
      nmiPending := if bitAt 7 u.ctrl = false ∧ bitAt 7 v = true ∧ bitAt 7 u.status = true then true else u.nmiPending } := by
  have hedge : (!bitAt 7 u.ctrl && bitAt 7 v && bitAt 7 u.status) =
      decide (bitAt 7 u.ctrl = false ∧ bitAt 7 v = true ∧ bitAt 7 u.status = true) := by
    simp [Bool.and_assoc]
  unfold ppuWriteControl
  rw [hedge]
  split <;> simp [*]

/-- Settles O39: the two ports store the byte; the control port also evaluates the NMI condition. -/
theorem controlAndMaskWrites : Obligations.ControlAndMaskWrites := by
  intro pc0 a v s h h'
  rw [busWrite_ppuPort pc0 v s h h']
  refine ⟨fun hp => ?_, fun hp => portWrite_mask pc0 v s hp⟩
  rw [portWrite_control pc0 v s hp, ppuWriteControl_eq]
  rfl

/-- Masking with 0x7F clears bit 7 and keeps the others (R252). -/
theorem bitAt_and_7F {k : Nat} (hk : k < 8) (v : Byte) : bitAt k (v &&& 0x7F) = if k = 7 then false else bitAt k v := by
  have hmask : ∀ j < 8, bitAt j 0x7F = decide (j ≠ 7) := by decide
  rw [bitAt_and, hmask k hk]
  split <;> simp [*]

theorem ppuAfterStatusRead_idem (u : Ppu) : ppuAfterStatusRead (ppuAfterStatusRead u) = ppuAfterStatusRead u := by
  have hs : u.status &&& 0x7F &&& 0x7F = u.status &&& 0x7F := by rw [BitVec.and_assoc]; rfl
  unfold ppuAfterStatusRead
  rw [hs]

/-- Settles O40: the read clears bit 7 and resets both latches, and after one read a second changes nothing. -/
theorem statusRead : Obligations.StatusRead := by
  intro pc0 a s h h' hp
  refine ⟨_, (busRead_ppuPort pc0 s h h').trans (portRead_status pc0 s hp), rfl, fun k hk => bitAt_and_7F hk s.ppu.status, ?_⟩
  rw [busRead_ppuPort pc0 _ h h', portRead_status pc0 _ hp, State.setPpu_ppu, ppuAfterStatusRead_idem]
  rfl

/-! ### The OAM ports (R253-R255) -/

/-- Settles O41: the data port writes the one OAM cell at the OAM address and advances the address. -/
theorem oamPorts : Obligations.OamPorts := by
  intro pc0 a v s h h'
  rw [busRead_ppuPort pc0 s h h', busWrite_ppuPort pc0 v s h h']
  exact ⟨fun hp => portWrite_oamAddr pc0 v s hp, fun hp => ⟨portRead_oamData pc0 s hp, _, portWrite_oamData pc0 v s hp, rfl,
    fun k => Memory.read_write .oam s.ppu.oamAddr.toNat v s.ppu.oam k⟩⟩

/-! ### The two-write latches (R256, R257) -/

section
variable (v : Byte) {u : Ppu}

theorem ppuWriteScroll_first (h : u.scrollFirst = true) : ppuWriteScroll v u = { u with scrollX := v, scrollFirst := false } := by
  simp only [ppuWriteScroll, h, if_true]

theorem ppuWriteScroll_second (h : u.scrollFirst = false) : ppuWriteScroll v u = { u with scrollY := v, scrollFirst := true } := by
  simp only [ppuWriteScroll, h, Bool.false_eq_true, if_false]

/-- The first address write replaces the high byte (R257). -/
theorem ppuWriteAddress_first (h : u.addrFirst = true) :
    ppuWriteAddress v u = { u with v := BitVec.ofNat 16 ((256 * v.toNat + u.v.toNat % 256) % 0x4000), addrFirst := false } := by
  simp only [ppuWriteAddress, h, if_true, and_3FFF_eq, mk16_toNat, loByte_toNat]

/-- The second address write replaces the low byte (R257). -/
theorem ppuWriteAddress_second (h : u.addrFirst = false) :
    ppuWriteAddress v u = { u with v := BitVec.ofNat 16 ((u.v.toNat / 256 * 256 + v.toNat) % 0x4000), addrFirst := true } := by
  simp only [ppuWriteAddress, h, Bool.false_eq_true, if_false, and_3FFF_eq, mk16_toNat, hiByte_toNat, Nat.mul_comm 256]

end

/-- Settles O42: each port's toggle says which half its write sets. -/
theorem twoWriteLatches : Obligations.TwoWriteLatches := by
  intro pc0 a v s h h'
  rw [busWrite_ppuPort pc0 v s h h']
  refine ⟨fun hp hf => ?_, fun hp hf => ?_, fun hp hf => ?_, fun hp hf => ?_⟩
  · rw [portWrite_scroll pc0 v s hp, ppuWriteScroll_first v hf]; rfl
  · rw [portWrite_scroll pc0 v s hp, ppuWriteScroll_second v hf]; rfl
  · rw [portWrite_address pc0 v s hp, ppuWriteAddress_first v hf]; rfl
  · rw [portWrite_address pc0 v s hp, ppuWriteAddress_second v hf]; rfl

/-! ### The VRAM data port (R248, R249, R258-R260) -/

/-- The increment in integer arithmetic (R260). -/
theorem vramIncrement_eq (u : Ppu) :
    vramIncrement u = { u with v := BitVec.ofNat 16 ((u.v.toNat + (if bitAt 2 u.ctrl then 32 else 1)) % 0x4000) } := by
  unfold vramIncrement
  rw [and_3FFF_eq, BitVec.toNat_add, apply_ite BitVec.toNat]
  congr 2
  exact Nat.mod_mod_of_dvd _ (by decide)

theorem vramRegion_nametable {n : Nat} (h : 0x2000 ≤ n) (h' : n < 0x3F00) : vramRegion n = .nametable := by
  rw [vramRegion, if_neg (Nat.not_lt.mpr h), if_pos h']

theorem vramRegion_palette {n : Nat} (h : 0x3F00 ≤ n) : vramRegion n = .palette := by
  rw [vramRegion, if_neg (by omega), if_neg (by omega)]

/-- `VramRead` as a choice by address (R248). -/
theorem vramRead_eq (c : Cartridge) (u : Ppu) (n : Nat) :
    vramRead c u n =
      if n < 0x2000 then Memory.read .chr c.chr n
      else if n < 0x3F00 then Memory.read .vram u.vram (ntIndex c.mirroring n)
      else Memory.read .palette u.palette (palIndex n) := by
  unfold vramRead vramRegion chrByte
  split_ifs <;> rfl

/-- The four palette indexes that R249 folds onto others, as a list. -/
theorem palIndex_eq (n : Nat) :
    palIndex n = if n % 0x20 ∈ [0x10, 0x14, 0x18, 0x1C] then n % 0x20 - 0x10 else n % 0x20 := by
  simp only [palIndex, List.mem_cons, List.not_mem_nil, or_false]

section
variable (pc0 : Word) {a : Word} (v : Byte) (s : State) (h : a.toNat % 8 = 7)
include h

theorem portRead_data_direct (hb : ¬ (s.params.readBuffered = true ∧ s.ppu.v.toNat < 0x3F00)) :
    portRead pc0 a s = .ok (vramRead s.cart s.ppu s.ppu.v.toNat) (s.setPpu (vramIncrement s.ppu)) := by
  have hr : readsBuffer s.params.readBuffered s.ppu = false := by simpa [readsBuffer] using hb
  simp only [portRead_data pc0 s h, ppuData, ppuAfterDataRead, hr, Bool.false_eq_true, if_false]

theorem portRead_data_buffered (hb : s.params.readBuffered = true) (hv : s.ppu.v.toNat < 0x3F00) :
    portRead pc0 a s = .ok s.ppu.readBuffer
      (s.setPpu (vramIncrement { s.ppu with readBuffer := vramRead s.cart s.ppu s.ppu.v.toNat })) := by
  have hr : readsBuffer s.params.readBuffered s.ppu = true := by simp [readsBuffer, hb, hv]
  simp only [portRead_data pc0 s h, ppuData, ppuAfterDataRead, hr, if_true]

theorem portWrite_data_nametable (hv : 0x2000 ≤ s.ppu.v.toNat) (hv' : s.ppu.v.toNat < 0x3F00) :
    portWrite pc0 a v s = .ok () (s.setPpu (vramIncrement
      { s.ppu with vram := Memory.write (ntIndex s.cart.mirroring s.ppu.v.toNat) v s.ppu.vram })) := by
  rw [portWrite_data pc0 v s h hv, ppuWriteData, vramWrite, vramRegion_nametable hv hv']

theorem portWrite_data_palette (hv : 0x3F00 ≤ s.ppu.v.toNat) :
    portWrite pc0 a v s = .ok () (s.setPpu (vramIncrement
      { s.ppu with palette := Memory.write (palIndex s.ppu.v.toNat) v s.ppu.palette })) := by
  rw [portWrite_data pc0 v s h (by omega), ppuWriteData, vramWrite, vramRegion_palette hv]

end

/-- Settles O43: a data access reads or writes the VRAM byte of its region and then moves the address. -/
theorem dataPort : Obligations.DataPort := by
  intro pc0 a v s h h' hp va v' r nt pal byte
  have hnt : ntIndex s.cart.mirroring va = nt := rfl
  have hpal : palIndex va = pal := palIndex_eq va
  have hbyte : vramRead s.cart s.ppu va = byte := by rw [vramRead_eq, hnt, hpal]
  rw [busRead_ppuPort pc0 s h h', busWrite_ppuPort pc0 v s h h']
  refine ⟨fun hb => ?_, fun hb hv => ?_, portWrite_data_chr pc0 v s hp, fun hv hv' => ⟨Memory.write nt v s.ppu.vram, ?_, ?_⟩,
    fun hv => ⟨Memory.write pal v s.ppu.palette, ?_, ?_⟩⟩
  · rw [portRead_data_direct pc0 s hp hb, hbyte, vramIncrement_eq]; rfl
  · rw [portRead_data_buffered pc0 s hp hb hv, hbyte, vramIncrement_eq]; rfl
  · rw [portWrite_data_nametable pc0 v s hp hv hv', hnt, vramIncrement_eq]; rfl
  · exact Memory.read_write .vram nt v s.ppu.vram
  · rw [portWrite_data_palette pc0 v s hp hv, hpal, vramIncrement_eq]; rfl
  · exact Memory.read_write .palette pal v s.ppu.palette

/-! ### The joypads (R269, R270) -/

section
variable {j : Pad}

theorem padBit_of_ge (h : 8 ≤ j.index) : padBit j = 1 := if_pos h

theorem padBit_of_lt (h : j.index < 8) : padBit j = if bitAt j.index j.buttons then 1 else 0 := by
  rw [padBit, if_neg (Nat.not_le.mpr h), ushiftRight_and_one]

theorem padAfterRead_of_ge (h : 8 ≤ j.index) : padAfterRead j = j := if_pos (.inl h)

theorem padAfterRead_of_lt (h : j.index < 8) :
    padAfterRead j = { j with index := if j.strobe then j.index else j.index + 1 } := by
  obtain ⟨buttons, strobe, index⟩ := j
  have h' : ¬ 8 ≤ index := Nat.not_le.mpr h
  cases strobe <;> simp [padAfterRead, h']

end

section
variable (pc0 : Word) (s : State)

theorem busWrite_pad1 (v : Byte) :
    busWrite pc0 0x4016 v s = .ok () ((s.setPad1 (padStrobe v s.pad1)).setPad2 (padStrobe v s.pad2)) :=
  busWrite_io pc0 v s (by decide) (by decide)

theorem busRead_pad1 : busRead pc0 0x4016 s = .ok (padBit s.pad1) (s.setPad1 (padAfterRead s.pad1)) :=
  busRead_io pc0 s (by decide) (by decide)

theorem busRead_pad2 : busRead pc0 0x4017 s = .ok (padBit s.pad2) (s.setPad2 (padAfterRead s.pad2)) :=
  busRead_io pc0 s (by decide) (by decide)

end

/-- Settles O46: a strobe write goes to both pads, a read to one; the index says whether a button is left to shift out. -/
theorem joypads : Obligations.Joypads := by
  refine ⟨fun pc0 v s => busWrite_pad1 pc0 s v, fun pc0 s => ⟨fun h => ?_, fun h => ?_, fun h => ?_, fun h => ?_⟩⟩
  · rw [busRead_pad1, padBit_of_ge h, padAfterRead_of_ge h]; rfl
  · rw [busRead_pad1, padBit_of_lt h, padAfterRead_of_lt h]; rfl
  · rw [busRead_pad2, padBit_of_ge h, padAfterRead_of_ge h]; rfl
  · rw [busRead_pad2, padBit_of_lt h, padAfterRead_of_lt h]; rfl

/-! ### The PPU advance (R240-R243) -/

/-- The status byte `p` once line `line` is reached: sprite-0 hit latched, vblank entered at 241, both cleared at 262 (R240-R243). -/
def statusAfterLine (hit : Bool) (line : Nat) (p : Byte) : Byte :=
  let latched := if hit then p ||| 0x40#8 else p
  let entered := if line = 241 then latched ||| 0x80#8 else latched
  if 262 ≤ line then entered &&& 0x3F#8 else entered

/-- `latchSprite0` writes the status and nothing else. -/
theorem latchSprite0_eq (line : Nat) (u : Ppu) :
    latchSprite0 line u = { u with status := if sprite0Hit line u.dot u then u.status ||| 0x40 else u.status } := by
  unfold latchSprite0
  split <;> rfl

/-- What a completed scanline does (R240): it moves the counter and fixes the status and the pending NMI, nothing else. -/
theorem lineDone_eq (u : Ppu) :
    lineDone u = { u with
      scanline := if 262 ≤ u.scanline + 1 then 0 else u.scanline + 1
      status := statusAfterLine (sprite0Hit u.scanline u.dot u) (u.scanline + 1) u.status
      nmiPending :=
        if 262 ≤ u.scanline + 1 then false else u.nmiPending || (decide (u.scanline + 1 = 241) && bitAt 7 u.ctrl) } := by
  have hhit : sprite0Hit u.scanline u.dot { u with scanline := u.scanline + 1 } = sprite0Hit u.scanline u.dot u := rfl
  simp only [lineDone, latchSprite0_eq, hhit, statusAfterLine]
  by_cases hvblank : u.scanline + 1 = 241
  · simp [vblankEnter, hvblank]
  · by_cases hend : 262 ≤ u.scanline + 1
    · simp [frameEnd, hvblank, hend]
    · simp [hvblank, hend]

/-- Every bit of the status once a line is reached: bits 0 to 5 are kept. -/
theorem bitAt_statusAfterLine {k : Nat} (hk : k < 8) (hit : Bool) (line : Nat) (p : Byte) :
    bitAt k (statusAfterLine hit line p) =
      if 262 ≤ line ∧ 6 ≤ k then false
      else bitAt k p || (decide (k = 6) && hit) || (decide (k = 7) && decide (line = 241)) := by
  have hmasks : ∀ j < 8, bitAt j 0x40#8 = decide (j = 6) ∧ bitAt j 0x80#8 = decide (j = 7) ∧ bitAt j 0x3F#8 = decide (j < 6) := by
    decide
  obtain ⟨h40, h80, h3F⟩ := hmasks k hk
  have hlatched : bitAt k (if hit then p ||| 0x40#8 else p) = (bitAt k p || (decide (k = 6) && hit)) := by
    cases hit <;> simp [bitAt_or, h40]
  unfold statusAfterLine
  by_cases hvblank : line = 241
  · simp [hvblank, bitAt_or, hlatched, h80]
  · by_cases hend : 262 ≤ line
    · by_cases hlow : k < 6
      · simp [hvblank, hend, bitAt_and, hlatched, h3F, hlow]
      · simp [hvblank, hend, bitAt_and, h3F, hlow, Nat.le_of_not_lt hlow]
    · simp [hvblank, hend, hlatched]

theorem ppuAdvance_of_lt {n : Nat} {u : Ppu} (h : u.dot + n < 341) : ppuAdvance n u = { u with dot := u.dot + n } :=
  if_neg (Nat.not_le.mpr h)

theorem ppuAdvance_of_ge {n : Nat} {u : Ppu} (h : 341 ≤ u.dot + n) :
    ppuAdvance n u = lineDone { u with dot := (u.dot + n) % 341 } := if_pos h

/-- Settles O48: an advance that reaches 341 dots completes one line, and a completed line fixes every bit it can change. -/
theorem ppuAdvanceCounters : Obligations.PpuAdvance := by
  intro n u
  refine ⟨ppuAdvance_of_lt, fun h => ?_⟩
  intro d hit
  have hhit : sprite0Hit u.scanline d { u with dot := d } = hit := by
    simp only [sprite0Hit, hit, Bool.decide_and, Bool.and_assoc]
  rw [ppuAdvance_of_ge h, lineDone_eq, hhit]
  refine ⟨_, rfl, rfl, rfl, fun k hk => ?_, ?_, ?_, rfl⟩
  · have hlow : ¬ 6 ≤ k ∧ k ≠ 6 ∧ k ≠ 7 := by omega
    simp [bitAt_statusAfterLine (show k < 8 by omega), hlow]
  · simp [bitAt_statusAfterLine]
  · simp [bitAt_statusAfterLine]

/-! ### NMI service (R222-R224) -/

/-- The state in which NMI service ticks: the pending NMI taken, PC and the status pushed, I set (R223). -/
def nmiEntered (s : State) : State := trapEntry s.pc (nmiStatus s.p) (s.setPpu { s.ppu with nmiPending := false })

theorem pollNmi_idle {s : State} (h : s.ppu.nmiPending = false) : pollNmi s = s := by
  simp only [pollNmi, h, Bool.false_eq_true, if_false]

/-- A pending NMI is served: Tick(2), then PC from the vector at 0xFFFA. -/
theorem pollNmi_pending {s : State} (h : s.ppu.nmiPending = true) :
    pollNmi s = loadVector 0xFFFA (tick 2 (nmiEntered s)) := by
  simp only [pollNmi, h, if_true]
  rfl

theorem nmiEntered_frame (s : State) :
    nmiEntered s = { s with
      sp := s.sp - 3, p := setFlag .i true s.p, ram := (nmiEntered s).ram, ppu := { s.ppu with nmiPending := false } } :=
  trapEntry_frame s.pc (nmiStatus s.p) (s.setPpu { s.ppu with nmiPending := false })

theorem nmiEntered_p (s : State) : (nmiEntered s).p = setFlag .i true s.p := by rw [nmiEntered_frame]

theorem nmiEntered_cart (s : State) : (nmiEntered s).cart = s.cart := by rw [nmiEntered_frame]

/-- NMI service pushes PC, high byte first, and then P with bit 4 clear and bit 5 set (R223). -/
theorem ramIs_nmiEntered (s : State) :
    ramIs s (nmiEntered s) [(stackIndex s.sp, hiByte s.pc), (stackIndex (s.sp - 1), loByte s.pc),
      (stackIndex (s.sp - 2), (s.p &&& 0xEF) ||| 0x20)] :=
  ramIs_trapEntry s.pc (nmiStatus s.p) (s.setPpu { s.ppu with nmiPending := false })

/-- Settles O12: the poll serves a pending NMI by one trap entry, whatever I holds, and is idle without one. -/
theorem nmiServed : Obligations.NmiService := by
  refine ⟨fun s => pollNmi_idle, fun s h => ⟨nmiEntered s, ?_, ?_, ?_, ramIs_nmiEntered s⟩⟩
  · rw [pollNmi_pending h, loadVector, tick_cart, nmiEntered_cart]
    rfl
  · rw [nmiEntered_p]
    exact nmiEntered_frame s
  · rw [nmiEntered_p]
    exact flagsAre_setFlag .i true s.p

end Sys2Proof.Machine
end

section
/-! SUPPORT. The steps that run no instruction: after the end of the run, and the host's stop request (60_exceptions.md R230, R279). With
`step_of_fetch` and `step_of_fetch_fault` these are the cases of `step`, in its order. -/

namespace Sys2Proof.Machine

/-- A recorded fault comes first: it is answered whatever else the state holds (R230; log 2). -/
theorem step_of_fault {s : State} {f : Fault} (hfault : s.fault = some f) : step s = .fault f := by
  simp only [step, hfault]

/-- A halt comes before the stop request, the NMI poll and the fetch (R230; log 3). -/
theorem step_of_halted {s : State} (hfault : s.fault = none) (hhalt : s.running = false) : step s = .next s := by
  simp only [step, hfault, hhalt, Bool.false_eq_true, if_false]

/-- A pending stop request comes before the NMI poll and the fetch (R279). -/
theorem step_of_stopRequest {s : State} (hfault : s.fault = none) (hrun : s.running = true) (hstop : s.stopRequest = true) :
    step s = .next (stopRun s) := by
  simp only [step, hfault, hrun, hstop, if_true]

/-- What a request leaves behind once it is taken: the run ended, the request cleared, every other field that of the state before it. -/
theorem stopRun_requestStop (s : State) : stopRun s.requestStop = { s with running := false, stopRequest := false } := rfl

/-- Settles O10: the two ends of a run are the first two cases of `step`, and neither touches the state. -/
theorem runEnded : Obligations.RunEnded :=
  fun _ => ⟨step_of_halted, fun _ => step_of_fault⟩

/-- Settles O11: the request leaves the run's own fields alone, so the step takes it before anything else. -/
theorem hostStop : Obligations.HostStop := by
  intro s hfault hrun
  have htaken : step s.requestStop = .next (stopRun s.requestStop) := step_of_stopRequest hfault hrun rfl
  rw [htaken, stopRun_requestStop]

end Sys2Proof.Machine
end
